-- ==== Sys2Proof/Word.lean ====
section
/-! DEFINITION. The words and plain data the device is given: bytes and 32-bit words, the three access widths, the
backend versions, and the undelivered events (a transaction word with its data operand, a backend completion, a reset). -/

namespace Sys2Proof

/-- A byte of the FIFO stream or of the buffer. -/
abbrev Byte := BitVec 8

/-- A 32-bit register value; every register is unsigned (spec/00_scope.md R13). -/
abbrev Word := BitVec 32

/-- A locality index 0..4 (spec/00_scope.md R10). NO_LOCALITY is `none` of `Option Locality`. -/
abbrev Locality := Fin 5

/-- The width of a bus access: 1, 2 or 4 bytes (spec/20_memory.md R67). -/
inductive Width where
  | one
  | two
  | four
deriving DecidableEq, Repr

/-- The interface version the backend reports (spec/10_state.md R37). -/
inductive TpmVersion where
  | unspec
  | v1_2
  | v2_0
deriving DecidableEq, Repr

/-- One event as it reaches the device, before it is decoded (spec/30_encoding.md R90, R91, R102). -/
inductive Input where
  /-- A guest transaction: its 18-bit transaction word and the 32-bit data operand carried beside it (R91, R93). -/
  | bus (tw : BitVec 18) (data : Word)
  /-- The backend's completion signal with what it draws (spec/47_backend.md R296). -/
  | completion (resp : List Byte) (selftest : Bool) (ret : Int) (est : Bool)
  /-- The platform's reset with the backend's answers (spec/70_reset_and_hazards.md R350). -/
  | platformReset (ver : TpmVersion) (raw : Nat) (err : Bool) (est : Bool)
deriving DecidableEq, Repr

end Sys2Proof
end

