-- ==== Sys2Proof/Config.lean ====
section
/-! DEFINITION. What an implementation or a platform fixes (spec/00_scope.md R10, R11): the fixed sizes, the configuration
parameters, and the free values the spec leaves open. An opaque constant has no body: nothing can be proved of its value. -/

namespace Sys2Proof

/-- BUFFER_MAX, the clamp on the backend's buffer size (spec/00_scope.md R10). -/
def Config.bufferMax : Nat := 4096

/-- The size of one locality page (spec/00_scope.md R10). -/
def Config.pageSize : Nat := 4096

/-- NUM_LOCALITIES × 4096 bytes (spec/00_scope.md R10). -/
def Config.regionSize : Nat := 20480

/-- What a reset does to the interrupt line: the OPEN parameter IRQ_LINE_AT_RESET (spec/00_scope.md R11). -/
inductive IrqLineAtReset where
  | unchanged
  | deasserted
deriving DecidableEq, Repr, Inhabited

/-- The configuration parameters of one device (spec/00_scope.md R11). State holds them, no step changes them, so a
statement about every state holds for every configuration. IRQ_NUM is 0..15 by its type (spec/60_exceptions.md R334). -/
structure Params where
  /-- BASE, the physical address of the region. -/
  base : Nat
  /-- IRQ_NUM, the interrupt number INT_VECTOR reads. -/
  irqNum : BitVec 4
  /-- IRQ_LINE_AT_RESET. -/
  irqLineAtReset : IrqLineAtReset
deriving DecidableEq, Repr

/-- BASE of the machine at State.reset: platform-defined (spec/20_memory.md R82; log 5). -/
opaque Config.base : Nat

/-- IRQ_NUM of the machine at State.reset (spec/10_state.md R41; log 5). -/
opaque Config.irqNum : BitVec 4

/-- IRQ_LINE_AT_RESET of the machine at State.reset (spec/10_state.md R41; log 5). -/
opaque Config.irqLineAtReset : IrqLineAtReset

/-- OUT_OF_WINDOW: what the platform's bus returns for the k-th read outside the region (spec/20_memory.md R62; log 6). -/
opaque Config.outOfWindow : Nat → Word

/-- What a buffer byte the memory does not list reads as (log 3: DESIGN CHOICE; any BUFFER_INIT is written as a list of
the bytes that differ from it, spec/10_state.md R38). -/
def Config.unlistedByte : Byte := 0x00#8

end Sys2Proof
end

