-- ==== Sys2Proof/Syntax.lean ====
section
/-! DEFINITION. The instructions of the device: one constructor per row of spec/opcode_table.json, the bus transactions
of spec/30_encoding.md R104 and the two addressless events.

Operands: `n` the width, `loc` the LOC field TW[14:12] (0..7; 5..7 lie outside the region, spec/20_memory.md R62), `reg`
the dword register index TW[11:2], `lane` TW[1:0], `v` the write data operand (spec/30_encoding.md R91, R93). -/

namespace Sys2Proof

inductive Instr where
  /-- SZ = 11b: no transaction (R92). `w`, `loc`, `reg`, `lane` are the other fields of the word. -/
  | refusedWidth (w : Bool) (loc : BitVec 3) (reg : BitVec 10) (lane : BitVec 2) (v : Word)
  /-- A write to the page of locality 4 (spec/40_dispatch.md R123). -/
  | wrLocality4 (n : Width) (reg : BitVec 10) (lane : BitVec 2) (v : Word)
  /-- spec/41_access.md R140. -/
  | rdAccess (n : Width) (loc : BitVec 3) (lane : BitVec 2)
  /-- spec/41_access.md R141. -/
  | wrAccess (n : Width) (loc : BitVec 3) (lane : BitVec 2) (v : Word)
  /-- spec/45_interrupt_regs.md R250. -/
  | rdIntEnable (n : Width) (loc : BitVec 3) (lane : BitVec 2)
  /-- spec/45_interrupt_regs.md R251. -/
  | wrIntEnable (n : Width) (loc : BitVec 3) (lane : BitVec 2) (v : Word)
  /-- spec/45_interrupt_regs.md R254. -/
  | rdIntVector (n : Width) (loc : BitVec 3) (lane : BitVec 2)
  /-- spec/45_interrupt_regs.md R255. -/
  | wrIntVector (n : Width) (loc : BitVec 3) (lane : BitVec 2) (v : Word)
  /-- spec/45_interrupt_regs.md R252. -/
  | rdIntStatus (n : Width) (loc : BitVec 3) (lane : BitVec 2)
  /-- spec/45_interrupt_regs.md R253. -/
  | wrIntStatus (n : Width) (loc : BitVec 3) (lane : BitVec 2) (v : Word)
  /-- spec/46_id_regs.md R270. -/
  | rdIntfCapability (n : Width) (loc : BitVec 3) (lane : BitVec 2)
  /-- spec/46_id_regs.md R272. -/
  | wrIntfCapability (n : Width) (loc : BitVec 3) (lane : BitVec 2) (v : Word)
  /-- spec/43_sts.md R200. -/
  | rdSts (n : Width) (loc : BitVec 3) (lane : BitVec 2)
  /-- spec/43_sts.md R203. -/
  | wrSts (n : Width) (loc : BitVec 3) (lane : BitVec 2) (v : Word)
  /-- spec/42_fifo.md R178. -/
  | rdDataFifo (n : Width) (loc : BitVec 3) (lane : BitVec 2)
  /-- spec/42_fifo.md R170. -/
  | wrDataFifo (n : Width) (loc : BitVec 3) (lane : BitVec 2) (v : Word)
  /-- spec/46_id_regs.md R273. -/
  | rdInterfaceId (n : Width) (loc : BitVec 3) (lane : BitVec 2)
  /-- spec/46_id_regs.md R275. -/
  | wrInterfaceId (n : Width) (loc : BitVec 3) (lane : BitVec 2) (v : Word)
  /-- spec/42_fifo.md R178; `dword` is REG[3:0], which of the 16 alias registers (spec/30_encoding.md R95). -/
  | rdDataXfifo (n : Width) (loc : BitVec 3) (dword : BitVec 4) (lane : BitVec 2)
  /-- spec/42_fifo.md R170. -/
  | wrDataXfifo (n : Width) (loc : BitVec 3) (dword : BitVec 4) (lane : BitVec 2) (v : Word)
  /-- spec/46_id_regs.md R276. -/
  | rdDidVid (n : Width) (loc : BitVec 3) (lane : BitVec 2)
  /-- spec/46_id_regs.md R278. -/
  | wrDidVid (n : Width) (loc : BitVec 3) (lane : BitVec 2) (v : Word)
  /-- spec/46_id_regs.md R277. -/
  | rdRid (n : Width) (loc : BitVec 3) (lane : BitVec 2)
  /-- spec/46_id_regs.md R278. -/
  | wrRid (n : Width) (loc : BitVec 3) (lane : BitVec 2) (v : Word)
  /-- A read of an offset R94 does not list (spec/40_dispatch.md R127). -/
  | rdUnmapped (n : Width) (loc : BitVec 3) (reg : BitVec 10) (lane : BitVec 2)
  /-- A write of an offset R94 does not list (spec/40_dispatch.md R128). -/
  | wrUnmapped (n : Width) (loc : BitVec 3) (reg : BitVec 10) (lane : BitVec 2) (v : Word)
  /-- The backend completion event (spec/47_backend.md R296): response bytes, selftest-done, return code, established. -/
  | complete (resp : List Byte) (selftest : Bool) (ret : Int) (est : Bool)
  /-- The reset event (spec/70_reset_and_hazards.md R350): the backend's version, raw buffer size, startup error and
  established flag. -/
  | reset (ver : TpmVersion) (raw : Nat) (err : Bool) (est : Bool)
deriving DecidableEq, Repr

end Sys2Proof
end

