-- ==== Sys2Proof/WellFormed.lean ====
section
/-! DEFINITION. Which instructions the encoding admits: a write row below WR_LOCALITY4 never carries page 4
(spec/30_encoding.md R96, R104), an unlisted row never carries a listed register (R94, R99), a response fits the largest
buffer (spec/47_backend.md R296), a backend buffer size is at least 1 (spec/00_scope.md R11). -/

namespace Sys2Proof

/-- The registers of spec/30_encoding.md R94 with one REG value each. -/
def listedRegs : List (BitVec 10) :=
  [0x000#10, 0x002#10, 0x003#10, 0x004#10, 0x005#10, 0x006#10, 0x009#10, 0x00C#10, 0x3C0#10, 0x3C1#10]

/-- REG[9:4] = 000010b selects DATA_XFIFO (spec/30_encoding.md R95). -/
def isXfifoReg (reg : BitVec 10) : Bool := reg.extractLsb' 4 6 == 0b000010#6

/-- REG is in the register decode table of spec/30_encoding.md R94. -/
def isListedReg (reg : BitVec 10) : Bool := listedRegs.contains reg || isXfifoReg reg

/-- A write row below WR_LOCALITY4 in the table of R104 is never reached with LOC = 4. -/
def writePageOk (loc : BitVec 3) : Bool := loc != 4#3

/-- The operands the row of this instruction admits. -/
def Instr.wf : Instr → Bool
  | .refusedWidth _ _ _ _ _ => true
  | .wrLocality4 _ _ _ _ => true
  | .rdAccess _ _ _ => true
  | .wrAccess _ loc _ _ => writePageOk loc
  | .rdIntEnable _ _ _ => true
  | .wrIntEnable _ loc _ _ => writePageOk loc
  | .rdIntVector _ _ _ => true
  | .wrIntVector _ loc _ _ => writePageOk loc
  | .rdIntStatus _ _ _ => true
  | .wrIntStatus _ loc _ _ => writePageOk loc
  | .rdIntfCapability _ _ _ => true
  | .wrIntfCapability _ loc _ _ => writePageOk loc
  | .rdSts _ _ _ => true
  | .wrSts _ loc _ _ => writePageOk loc
  | .rdDataFifo _ _ _ => true
  | .wrDataFifo _ loc _ _ => writePageOk loc
  | .rdInterfaceId _ _ _ => true
  | .wrInterfaceId _ loc _ _ => writePageOk loc
  | .rdDataXfifo _ _ _ _ => true
  | .wrDataXfifo _ loc _ _ _ => writePageOk loc
  | .rdDidVid _ _ _ => true
  | .wrDidVid _ loc _ _ => writePageOk loc
  | .rdRid _ _ _ => true
  | .wrRid _ loc _ _ => writePageOk loc
  | .rdUnmapped _ _ reg _ => !isListedReg reg
  | .wrUnmapped _ loc reg _ _ => writePageOk loc && !isListedReg reg
  | .complete resp _ _ _ => decide (resp.length ≤ Config.bufferMax)
  | .reset _ raw _ _ => decide (1 ≤ raw)

end Sys2Proof
end

