-- ==== Sys2Proof/Decode.lean ====
section
/-! DEFINITION. From the event as it reaches the device to the instruction, and back. The decoder reads the fields of the
transaction word (spec/30_encoding.md R91) in the order of R96 and selects the register by REG alone (R94). The opcode
table of R104 stands beside it as data, with the mnemonic of every instruction. -/

namespace Sys2Proof

/-- The register a REG value selects (spec/30_encoding.md R94). -/
inductive RegName where
  | access
  | intEnable
  | intVector
  | intStatus
  | intfCapability
  | sts
  | dataFifo
  | interfaceId
  | dataXfifo (dword : BitVec 4)
  | didVid
  | rid
  | unlisted (reg : BitVec 10)
deriving DecidableEq, Repr

/-- Why an event is no instruction of the device. A transaction word is never rejected: R104's last two rows match every
word the others leave. -/
inductive DecodeError where
  /-- A completion with more bytes than the largest buffer holds (spec/47_backend.md R296: |resp| ≤ buffer_size ≤ 4096). -/
  | responseOverBufferMax
  /-- A reset whose backend reports a buffer size of 0 (spec/00_scope.md R11: BE_BUFFER_SIZE_RAW is an integer ≥ 1). -/
  | zeroBufferSize
deriving DecidableEq, Repr

/-- The register decode of spec/30_encoding.md R94 and R95. -/
def regOf (reg : BitVec 10) : RegName :=
  if reg = 0x000#10 then .access
  else if reg = 0x002#10 then .intEnable
  else if reg = 0x003#10 then .intVector
  else if reg = 0x004#10 then .intStatus
  else if reg = 0x005#10 then .intfCapability
  else if reg = 0x006#10 then .sts
  else if reg = 0x009#10 then .dataFifo
  else if reg = 0x00C#10 then .interfaceId
  else if isXfifoReg reg then .dataXfifo (reg.extractLsb' 0 4)
  else if reg = 0x3C0#10 then .didVid
  else if reg = 0x3C1#10 then .rid
  else .unlisted reg

/-- SZ, the width code (spec/30_encoding.md R91); 11b is reserved (R92). -/
def widthOf (sz : BitVec 2) : Option Width :=
  if sz = 0b00#2 then some .one
  else if sz = 0b01#2 then some .two
  else if sz = 0b10#2 then some .four
  else none

/-- TW[17:16]. -/
def twSz (tw : BitVec 18) : BitVec 2 := tw.extractLsb' 16 2
/-- TW[15]: 1 is a write. -/
def twW (tw : BitVec 18) : BitVec 1 := tw.extractLsb' 15 1
/-- TW[14:12], the locality page. -/
def twLoc (tw : BitVec 18) : BitVec 3 := tw.extractLsb' 12 3
/-- TW[11:2], the dword register index. -/
def twReg (tw : BitVec 18) : BitVec 10 := tw.extractLsb' 2 10
/-- TW[1:0], the byte lane. -/
def twLane (tw : BitVec 18) : BitVec 2 := tw.extractLsb' 0 2

/-- The read row of each register (spec/30_encoding.md R94, R104). -/
def readInstr (n : Width) (loc : BitVec 3) (lane : BitVec 2) : RegName → Instr
  | .access => .rdAccess n loc lane
  | .intEnable => .rdIntEnable n loc lane
  | .intVector => .rdIntVector n loc lane
  | .intStatus => .rdIntStatus n loc lane
  | .intfCapability => .rdIntfCapability n loc lane
  | .sts => .rdSts n loc lane
  | .dataFifo => .rdDataFifo n loc lane
  | .interfaceId => .rdInterfaceId n loc lane
  | .dataXfifo dword => .rdDataXfifo n loc dword lane
  | .didVid => .rdDidVid n loc lane
  | .rid => .rdRid n loc lane
  | .unlisted reg => .rdUnmapped n loc reg lane

/-- The write row of each register (spec/30_encoding.md R94, R104). -/
def writeInstr (n : Width) (loc : BitVec 3) (lane : BitVec 2) (v : Word) : RegName → Instr
  | .access => .wrAccess n loc lane v
  | .intEnable => .wrIntEnable n loc lane v
  | .intVector => .wrIntVector n loc lane v
  | .intStatus => .wrIntStatus n loc lane v
  | .intfCapability => .wrIntfCapability n loc lane v
  | .sts => .wrSts n loc lane v
  | .dataFifo => .wrDataFifo n loc lane v
  | .interfaceId => .wrInterfaceId n loc lane v
  | .dataXfifo dword => .wrDataXfifo n loc dword lane v
  | .didVid => .wrDidVid n loc lane v
  | .rid => .wrRid n loc lane v
  | .unlisted reg => .wrUnmapped n loc reg lane v

/-- The transaction a transaction word and its data operand spell, in the order of spec/30_encoding.md R96. A read has no
data operand (R90). -/
def decodeBus (tw : BitVec 18) (data : Word) : Instr :=
  match widthOf (twSz tw) with
  | none => .refusedWidth (twW tw == 1#1) (twLoc tw) (twReg tw) (twLane tw) data
  | some n =>
    if twW tw = 1#1 then
      if twLoc tw = 4#3 then .wrLocality4 n (twReg tw) (twLane tw) data
      else writeInstr n (twLoc tw) (twLane tw) data (regOf (twReg tw))
    else readInstr n (twLoc tw) (twLane tw) (regOf (twReg tw))

/-- The instruction an event is. Total: an event no rule admits is rejected by name (log 10). -/
def decode : Input → Except DecodeError Instr
  | .bus tw data => .ok (decodeBus tw data)
  | .completion resp selftest ret est =>
    if resp.length ≤ Config.bufferMax then .ok (.complete resp selftest ret est) else .error .responseOverBufferMax
  | .platformReset ver raw err est =>
    if 1 ≤ raw then .ok (.reset ver raw err est) else .error .zeroBufferSize

/-- The event of a word of spec/opcode_table.json: its low 18 bits are TW; the data operand, which the table gives no
bits, is 0 (log 12). -/
def busWord (nbits w : Nat) : Input := .bus (BitVec.ofNat 18 (w % 2 ^ nbits)) 0#32

/-- The instruction the decoder reads from a word of spec/opcode_table.json. -/
def decodeTableWord (nbits w : Nat) : Option Instr :=
  match decode (busWord nbits w) with
  | .ok i => some i
  | .error _ => none

/-! The encoder, from the same fields. -/

/-- SZ of a width (spec/30_encoding.md R91). -/
def szCode : Width → BitVec 2
  | .one => 0b00#2
  | .two => 0b01#2
  | .four => 0b10#2

/-- TW = SZ, W, LOC, REG, LANE from the top bit down (spec/30_encoding.md R91). -/
def twOf (sz : BitVec 2) (w : BitVec 1) (loc : BitVec 3) (reg : BitVec 10) (lane : BitVec 2) : BitVec 18 :=
  sz ++ w ++ loc ++ reg ++ lane

/-- The REG value of a DATA_XFIFO dword (spec/30_encoding.md R95). -/
def xfifoReg (dword : BitVec 4) : BitVec 10 := (0b000010#6 ++ dword : BitVec 10)

/-- A read transaction; the data operand it does not have is 0. -/
def readWord (n : Width) (loc : BitVec 3) (reg : BitVec 10) (lane : BitVec 2) : Input :=
  .bus (twOf (szCode n) 0#1 loc reg lane) 0#32

/-- A write transaction. -/
def writeWord (n : Width) (loc : BitVec 3) (reg : BitVec 10) (lane : BitVec 2) (v : Word) : Input :=
  .bus (twOf (szCode n) 1#1 loc reg lane) v

/-- The event of an instruction, from the register offsets of spec/30_encoding.md R94. -/
def encode : Instr → Input
  | .refusedWidth w loc reg lane v => .bus (twOf 0b11#2 (BitVec.ofBool w) loc reg lane) v
  | .wrLocality4 n reg lane v => writeWord n 4#3 reg lane v
  | .rdAccess n loc lane => readWord n loc 0x000#10 lane
  | .wrAccess n loc lane v => writeWord n loc 0x000#10 lane v
  | .rdIntEnable n loc lane => readWord n loc 0x002#10 lane
  | .wrIntEnable n loc lane v => writeWord n loc 0x002#10 lane v
  | .rdIntVector n loc lane => readWord n loc 0x003#10 lane
  | .wrIntVector n loc lane v => writeWord n loc 0x003#10 lane v
  | .rdIntStatus n loc lane => readWord n loc 0x004#10 lane
  | .wrIntStatus n loc lane v => writeWord n loc 0x004#10 lane v
  | .rdIntfCapability n loc lane => readWord n loc 0x005#10 lane
  | .wrIntfCapability n loc lane v => writeWord n loc 0x005#10 lane v
  | .rdSts n loc lane => readWord n loc 0x006#10 lane
  | .wrSts n loc lane v => writeWord n loc 0x006#10 lane v
  | .rdDataFifo n loc lane => readWord n loc 0x009#10 lane
  | .wrDataFifo n loc lane v => writeWord n loc 0x009#10 lane v
  | .rdInterfaceId n loc lane => readWord n loc 0x00C#10 lane
  | .wrInterfaceId n loc lane v => writeWord n loc 0x00C#10 lane v
  | .rdDataXfifo n loc dword lane => readWord n loc (xfifoReg dword) lane
  | .wrDataXfifo n loc dword lane v => writeWord n loc (xfifoReg dword) lane v
  | .rdDidVid n loc lane => readWord n loc 0x3C0#10 lane
  | .wrDidVid n loc lane v => writeWord n loc 0x3C0#10 lane v
  | .rdRid n loc lane => readWord n loc 0x3C1#10 lane
  | .wrRid n loc lane v => writeWord n loc 0x3C1#10 lane v
  | .rdUnmapped n loc reg lane => readWord n loc reg lane
  | .wrUnmapped n loc reg lane v => writeWord n loc reg lane v
  | .complete resp selftest ret est => .completion resp selftest ret est
  | .reset ver raw err est => .platformReset ver raw err est

/-! The opcode table of spec/30_encoding.md R104 as data. -/

/-- One row: the first row from the top whose `TW & mask = pattern` applies. -/
structure OpcodeRow where
  mnemonic : String
  pattern : BitVec 18
  mask : BitVec 18
deriving DecidableEq, Repr

/-- The row applies to the word. -/
def OpcodeRow.applies (r : OpcodeRow) (tw : BitVec 18) : Bool := tw &&& r.mask == r.pattern

/-- The 26 transaction rows, top to bottom. -/
def opcodeRows : List OpcodeRow :=
  [⟨"REFUSED_WIDTH", 0x30000#18, 0x30000#18⟩,
   ⟨"WR_LOCALITY4", 0x0C000#18, 0x0F000#18⟩,
   ⟨"RD_ACCESS", 0x00000#18, 0x08FFC#18⟩,
   ⟨"WR_ACCESS", 0x08000#18, 0x08FFC#18⟩,
   ⟨"RD_INT_ENABLE", 0x00008#18, 0x08FFC#18⟩,
   ⟨"WR_INT_ENABLE", 0x08008#18, 0x08FFC#18⟩,
   ⟨"RD_INT_VECTOR", 0x0000C#18, 0x08FFC#18⟩,
   ⟨"WR_INT_VECTOR", 0x0800C#18, 0x08FFC#18⟩,
   ⟨"RD_INT_STATUS", 0x00010#18, 0x08FFC#18⟩,
   ⟨"WR_INT_STATUS", 0x08010#18, 0x08FFC#18⟩] ++
  [⟨"RD_INTF_CAPABILITY", 0x00014#18, 0x08FFC#18⟩,
   ⟨"WR_INTF_CAPABILITY", 0x08014#18, 0x08FFC#18⟩,
   ⟨"RD_STS", 0x00018#18, 0x08FFC#18⟩,
   ⟨"WR_STS", 0x08018#18, 0x08FFC#18⟩,
   ⟨"RD_DATA_FIFO", 0x00024#18, 0x08FFC#18⟩,
   ⟨"WR_DATA_FIFO", 0x08024#18, 0x08FFC#18⟩,
   ⟨"RD_INTERFACE_ID", 0x00030#18, 0x08FFC#18⟩,
   ⟨"WR_INTERFACE_ID", 0x08030#18, 0x08FFC#18⟩,
   ⟨"RD_DATA_XFIFO", 0x00080#18, 0x08FC0#18⟩,
   ⟨"WR_DATA_XFIFO", 0x08080#18, 0x08FC0#18⟩] ++
  [⟨"RD_DID_VID", 0x00F00#18, 0x08FFC#18⟩,
   ⟨"WR_DID_VID", 0x08F00#18, 0x08FFC#18⟩,
   ⟨"RD_RID", 0x00F04#18, 0x08FFC#18⟩,
   ⟨"WR_RID", 0x08F04#18, 0x08FFC#18⟩,
   ⟨"RD_UNMAPPED", 0x00000#18, 0x08000#18⟩,
   ⟨"WR_UNMAPPED", 0x08000#18, 0x08000#18⟩]

/-- The row of spec/opcode_table.json an instruction is. -/
def Instr.mnemonic : Instr → String
  | .refusedWidth _ _ _ _ _ => "REFUSED_WIDTH"
  | .wrLocality4 _ _ _ _ => "WR_LOCALITY4"
  | .rdAccess _ _ _ => "RD_ACCESS"
  | .wrAccess _ _ _ _ => "WR_ACCESS"
  | .rdIntEnable _ _ _ => "RD_INT_ENABLE"
  | .wrIntEnable _ _ _ _ => "WR_INT_ENABLE"
  | .rdIntVector _ _ _ => "RD_INT_VECTOR"
  | .wrIntVector _ _ _ _ => "WR_INT_VECTOR"
  | .rdIntStatus _ _ _ => "RD_INT_STATUS"
  | .wrIntStatus _ _ _ _ => "WR_INT_STATUS"
  | .rdIntfCapability _ _ _ => "RD_INTF_CAPABILITY"
  | .wrIntfCapability _ _ _ _ => "WR_INTF_CAPABILITY"
  | .rdSts _ _ _ => "RD_STS"
  | .wrSts _ _ _ _ => "WR_STS"
  | .rdDataFifo _ _ _ => "RD_DATA_FIFO"
  | .wrDataFifo _ _ _ _ => "WR_DATA_FIFO"
  | .rdInterfaceId _ _ _ => "RD_INTERFACE_ID"
  | .wrInterfaceId _ _ _ _ => "WR_INTERFACE_ID"
  | .rdDataXfifo _ _ _ _ => "RD_DATA_XFIFO"
  | .wrDataXfifo _ _ _ _ _ => "WR_DATA_XFIFO"
  | .rdDidVid _ _ _ => "RD_DID_VID"
  | .wrDidVid _ _ _ _ => "WR_DID_VID"
  | .rdRid _ _ _ => "RD_RID"
  | .wrRid _ _ _ _ => "WR_RID"
  | .rdUnmapped _ _ _ _ => "RD_UNMAPPED"
  | .wrUnmapped _ _ _ _ _ => "WR_UNMAPPED"
  | .complete _ _ _ _ => "COMPLETE"
  | .reset _ _ _ _ => "RESET"

end Sys2Proof
end

