-- ==== Sys2Proof/Machine/Constants.lean ====
section
/-! DEFINITION. The named bit constants of spec/10_state.md R43, the values a reset gives the registers
(spec/70_reset_and_hazards.md R352, R353) and the values of the identification registers (spec/46_id_regs.md). -/

namespace Sys2Proof.Machine

/-! ACCESS bits (spec/10_state.md R28, R43). -/

/-- ACC_ESTABLISHMENT, bit 0. -/
def accEstablishment : BitVec 8 := 0x01#8
/-- ACC_REQUEST_USE, bit 1. -/
def accRequestUse : BitVec 8 := 0x02#8
/-- ACC_PENDING_REQUEST, bit 2. -/
def accPendingRequest : BitVec 8 := 0x04#8
/-- ACC_SEIZE, bit 3. -/
def accSeize : BitVec 8 := 0x08#8
/-- ACC_BEEN_SEIZED, bit 4. -/
def accBeenSeized : BitVec 8 := 0x10#8
/-- ACC_ACTIVE_LOCALITY, bit 5. -/
def accActiveLocality : BitVec 8 := 0x20#8
/-- ACC_REG_VALID_STS, bit 7. -/
def accRegValidSts : BitVec 8 := 0x80#8

/-! STS bits (spec/10_state.md R30, R43). -/

/-- STS_RESPONSE_RETRY, bit 1. -/
def stsResponseRetry : Word := 0x00000002#32
/-- STS_SELFTEST_DONE, bit 2. -/
def stsSelftestDone : Word := 0x00000004#32
/-- STS_EXPECT, bit 3. -/
def stsExpect : Word := 0x00000008#32
/-- STS_DATA_AVAILABLE, bit 4. -/
def stsDataAvailable : Word := 0x00000010#32
/-- STS_TPM_GO, bit 5. -/
def stsTpmGo : Word := 0x00000020#32
/-- STS_COMMAND_READY, bit 6. -/
def stsCommandReady : Word := 0x00000040#32
/-- STS_VALID, bit 7. -/
def stsValid : Word := 0x00000080#32
/-- STS_COMMAND_CANCEL, bit 24. -/
def stsCommandCancel : Word := 0x01000000#32
/-- STS_RESET_ESTABLISHMENT, bit 25. -/
def stsResetEstablishment : Word := 0x02000000#32
/-- STS_PERSIST: SELFTEST_DONE and the family field. -/
def stsPersist : Word := 0x0C000004#32
/-- STS_ACTIONS: COMMAND_READY, TPM_GO and RESPONSE_RETRY. -/
def stsActions : Word := 0x00000062#32

/-! Interrupt bits, the same in INT_ENABLE and INT_STATUS (spec/10_state.md R31, R32, R43). -/

/-- INT_DATA_AVAILABLE, bit 0. -/
def intDataAvailable : Word := 0x00000001#32
/-- INT_STS_VALID, bit 1. -/
def intStsValid : Word := 0x00000002#32
/-- INT_LOCALITY_CHANGED, bit 2. -/
def intLocalityChanged : Word := 0x00000004#32
/-- INT_COMMAND_READY, bit 7. -/
def intCommandReady : Word := 0x00000080#32
/-- INT_POLARITY_LOW_LEVEL: POLARITY = 01b. -/
def intPolarityLowLevel : Word := 0x00000008#32
/-- INT_ENABLED, bit 31 of INT_ENABLE. -/
def intEnabled : Word := 0x80000000#32
/-- INTERRUPTS_SUPPORTED: bits 0, 1, 2 and 7. -/
def interruptsSupported : Word := 0x00000087#32
/-- INTE_WRITABLE. -/
def inteWritable : Word := 0x8000009F#32

/-- IFACE_INT_SEL_LOCK, bit 19 of INTERFACE_ID. -/
def ifaceIntSelLock : Word := 0x00080000#32
/-- NO_DATA_BYTE: a FIFO byte when there is nothing to read. -/
def noDataByte : Byte := 0xFF#8
/-- UNMAPPED_VALUE: the read value of an unlisted offset. -/
def unmappedValue : Word := 0xFFFFFFFF#32

/-! Values that depend on the backend's version (spec/70_reset_and_hazards.md R353; log 16). -/

/-- STS_RESET(ver). -/
def stsReset : TpmVersion → Word
  | .unspec => 0x00000000#32
  | .v1_2 => 0x00000000#32
  | .v2_0 => 0x04000000#32

/-- IFACE_RESET(ver) (spec/46_id_regs.md R274). -/
def ifaceReset : TpmVersion → Word
  | .unspec => 0x00000000#32
  | .v1_2 => 0xFFFFFFFF#32
  | .v2_0 => 0x00002100#32

/-- The INTF_CAPABILITY value (spec/46_id_regs.md R270, R271). -/
def intfCapability : TpmVersion → Word
  | .unspec => 0x00000000#32
  | .v1_2 => 0x20000697#32
  | .v2_0 => 0x30000697#32

/-- The DID_VID value (spec/46_id_regs.md R276, spec/90_conflicts.md C1). -/
def didVid : Word := 0x00011014#32

/-- The RID value (spec/46_id_regs.md R277). -/
def rid : Word := 0x00000001#32

/-- buffer_size = min(BE_BUFFER_SIZE_RAW, 4096) (spec/00_scope.md R12). -/
def clampBufferSize (raw : Nat) : Fin 4097 := ⟨min raw 4096, by omega⟩

end Sys2Proof.Machine
end

