-- ==== Sys2Proof/Machine/State.lean ====
section
/-! DEFINITION. The state of the device as plain data (spec/10_state.md), the reasons a step can stop, and the state after
reset (spec/70_reset_and_hazards.md R350 to R355). -/

namespace Sys2Proof.Machine

/-- The per-locality state machine (spec/10_state.md R24). -/
inductive LocState where
  | idle
  | ready
  | reception
  | execution
  | completion
deriving DecidableEq, Repr

/-- The record of one locality: exactly these stored fields (spec/10_state.md R23). -/
structure Bank where
  /-- The protocol state (R24). -/
  state : LocState
  /-- The ACCESS store (R27). -/
  access : BitVec 8
  /-- The STS store (R29). -/
  sts : Word
  /-- INTERFACE_ID (R33). -/
  ifaceId : Word
  /-- INT_ENABLE (R31). -/
  inte : Word
  /-- INT_STATUS (R32). -/
  ints : Word
deriving DecidableEq, Repr

/-- The in-flight request descriptor; input and output both point at the buffer (spec/10_state.md R39). -/
structure Cmd where
  locty : Locality
  inLen : BitVec 16
  outCap : Fin 4097
deriving DecidableEq, Repr

/-- The model's fault reasons, recorded and not raised (spec/60_exceptions.md R333). -/
inductive FaultReason where
  /-- Code 1: a bus word with SZ = 11b; recorded by REFUSED_WIDTH. -/
  | refusedWidth
  /-- Code 2: a submit while a command is outstanding; recorded by TPM_GO. -/
  | backendBusy
  /-- Code 3: a FIFO byte stored while a command is outstanding; recorded by a FIFO write. -/
  | bufferRace
deriving DecidableEq, Repr

/-- The set of recorded reasons (spec/10_state.md R42), one membership bit each. -/
structure FaultSet where
  refusedWidth : Bool
  backendBusy : Bool
  bufferRace : Bool
deriving DecidableEq, Repr

/-- The buffer as (address, byte) cells in canonical form: addresses strictly rising and below 4096, no entry equal to
Config.unlistedByte, which is what an unlisted address reads as (`Memory.wf` in Machine/Ops.lean; log 3). -/
abbrev Memory := List Host.Cell

/-- What the last event answered on the bus (spec/30_encoding.md R90; log 7). -/
inductive Reply where
  /-- A write, a refused word, a completion, a reset: no value is returned. -/
  | none
  /-- The device's read value, an unsigned value of 8n bits, zero-extended. -/
  | device (n : Width) (value : Word)
  /-- The platform's value for a read outside the region (OUT_OF_WINDOW, spec/20_memory.md R62). -/
  | platform (n : Width) (value : Word)
deriving DecidableEq, Repr

/-- The device and the events not yet delivered to it. -/
structure State where
  /-- The five locality records (spec/10_state.md R23). -/
  loc : Vector Bank 5
  /-- The locality that owns the interface; none is NO_LOCALITY (R34). -/
  activeLocty : Option Locality
  /-- The locality that will own the interface when a pending abort finishes (R35). -/
  nextLocty : Option Locality
  /-- The locality whose command is being aborted (R35). -/
  abortingLocty : Option Locality
  /-- The one FIFO cursor (R36). -/
  rwOffset : BitVec 16
  /-- The version read at the last reset (R37). -/
  beTpmVersion : TpmVersion
  /-- The command/response buffer (R38). -/
  buffer : Memory
  /-- Its usable capacity, at most 4096 by its type (R38). -/
  bufferSize : Fin 4097
  /-- The in-flight descriptor (R39). -/
  cmd : Cmd
  /-- A command is outstanding (R39). -/
  beOutstanding : Bool
  /-- The backend's established flag (R40). -/
  beEstablished : Bool
  /-- The backend reported a startup error (R40). -/
  beStartupError : Bool
  /-- The command bytes the backend took at the last submit (R40). -/
  beIn : List Byte
  /-- How often the backend's cancel was called (R40). -/
  beCancels : Nat
  /-- The interrupt line: true is asserted (R41). -/
  irqLine : Bool
  /-- The configuration; no step changes it (spec/00_scope.md R11). -/
  params : Params
  /-- The model's fault record (R42). -/
  faults : FaultSet
  /-- The model's own: what the last event answered (log 7). -/
  reply : Reply
  /-- The model's own: the events not yet delivered, oldest first (spec/20_memory.md R71; log 1). -/
  inputs : List Input
  /-- The model's own: the index of the next free value (log 6). -/
  freeCount : Nat
deriving DecidableEq, Repr

/-- Why a step stops with a fault. The three fault reasons of spec/60_exceptions.md R333 are no stops: they are recorded
in `State.faults` and the step goes on (R331: the device never stops). -/
inductive Fault where
  /-- Raised by COMPLETE alone: the response is longer than cmd.out_cap, so the event lies outside R296's operands
  (spec/47_backend.md) and its last bytes have no place in the buffer. Safe: the step stops (log 9). -/
  | responseOverCapacity
deriving DecidableEq, Repr

/-- Why a step is refused. -/
inductive Refusal where
  /-- An instruction without a meaning, by its mnemonic; raised by exec's arms alone. Safe. -/
  | notModelled (mnemonic : String)
  /-- Raised by COMPLETE alone: no command is outstanding, so the event is not enabled (spec/47_backend.md R296, R302;
  spec/93_implementation_defined.md U17). Safe (log 8). -/
  | completionNotEnabled
  /-- Raised by step alone: the decoder rejects the event (a response over 4096 bytes, a backend buffer size of 0). Safe
  (log 10). -/
  | notAnEvent
deriving DecidableEq, Repr

/-- What a power-on fixes: the configuration, BUFFER_INIT and the backend's answers at the first reset
(spec/70_reset_and_hazards.md R355, spec/00_scope.md R11). -/
structure PowerOn where
  params : Params
  bufferInit : Memory
  ver : TpmVersion
  raw : Nat
  err : Bool
  est : Bool
deriving DecidableEq, Repr

/-- One locality's record after a reset (spec/70_reset_and_hazards.md R352). -/
def Bank.reset (ver : TpmVersion) : Bank :=
  { state := .idle, access := accRegValidSts, sts := stsReset ver, ifaceId := ifaceReset ver,
    inte := intPolarityLowLevel, ints := 0#32 }

/-- The state right after power-on and its first reset, with no event delivered yet (spec/70_reset_and_hazards.md R352,
R355). cmd and beIn have no value in the spec (log 4). -/
def State.powerOn (p : PowerOn) : State :=
  { loc := Vector.replicate 5 (Bank.reset p.ver),
    activeLocty := none, nextLocty := none, abortingLocty := none,
    rwOffset := 0#16, beTpmVersion := p.ver,
    buffer := p.bufferInit, bufferSize := clampBufferSize p.raw,
    cmd := { locty := 0, inLen := 0#16, outCap := 0 },
    beOutstanding := false, beEstablished := p.est, beStartupError := p.err,
    beIn := [], beCancels := 0, irqLine := false, params := p.params,
    faults := { refusedWidth := false, backendBusy := false, bufferRace := false },
    reply := .none, inputs := [], freeCount := 0 }

/-- The machine right after reset: the common start state Z0 of spec/95_test_vectors.md (RESET ver=2.0, bufsize=4096,
err=0, est=0 from power-on; log 2), the buffer all zeros (log 3), the configuration opaque (log 5). -/
def State.reset : State :=
  State.powerOn
    { params := { base := Config.base, irqNum := Config.irqNum, irqLineAtReset := Config.irqLineAtReset },
      bufferInit := [], ver := .v2_0, raw := 4096, err := false, est := false }

end Sys2Proof.Machine
end

