-- ==== Sys2Proof/Machine/Flags.lean ====
section
/-! DEFINITION. The flag computations on register values, without the state around them: testing and replacing flags, the
synthesized bits of ACCESS and STS. -/

namespace Sys2Proof.Machine

/-- Some bit of the mask is set in the value. -/
def anySet {w : Nat} (v mask : BitVec w) : Bool := v &&& mask != 0#w

/-- The value with the bits of the mask cleared. -/
def clearBits {w : Nat} (v mask : BitVec w) : BitVec w := v &&& ~~~mask

/-- The value with the bits of the mask set. -/
def setBits {w : Nat} (v mask : BitVec w) : BitVec w := v ||| mask

/-- The status-set primitive on an STS value: replace the status flags by F, keep SELFTEST_DONE and the family field
(spec/10_state.md R44). -/
def stsReplace (sts flags : Word) : Word := (sts &&& stsPersist) ||| flags

/-- The burst count while DATA_AVAILABLE is set: response bytes left, modulo 2^32 (spec/43_sts.md R201). -/
def burstLeft (len : Nat) (rwOffset : BitVec 16) : Word := BitVec.ofNat 32 len - rwOffset.setWidth 32

/-- The burst count while DATA_AVAILABLE is clear: free capacity, cut to 0xFF for a 1-byte read (spec/43_sts.md R202). -/
def burstFree (n : Width) (bufferSize : Nat) (rwOffset : BitVec 16) : Word :=
  let burst := BitVec.ofNat 32 bufferSize - rwOffset.setWidth 32
  if n = .one ∧ 0xFF#32 < burst then 0xFF#32 else burst

/-- The STS read value from a burst count and the stored flags (spec/43_sts.md R200). -/
def stsWithBurst (burst sts : Word) : Word := (burst <<< 8) ||| sts

/-- The ACCESS read value: SEIZE hidden, PENDING_REQUEST and ESTABLISHMENT synthesized, REG_VALID_STS set
(spec/41_access.md R140). -/
def accessView (access : BitVec 8) (pending established : Bool) : Word :=
  let v := clearBits access accSeize
  let v := if pending then setBits v accPendingRequest else v
  let v := if established then v else setBits v accEstablishment
  (setBits v accRegValidSts).setWidth 32

end Sys2Proof.Machine
end

