-- ==== Sys2Proof/Machine/Operands.lean ====
section
/-! DEFINITION. How a transaction's operands are assembled: the locality page, the width mask and the lane shift of a
non-FIFO register, the clamp and the byte order of the FIFO (spec/30_encoding.md R97, R98; spec/20_memory.md R61 to R68). -/

namespace Sys2Proof.Machine

/-- The locality a page field names; pages 5..7 lie outside the region (spec/20_memory.md R61, R62). -/
def localityOf (loc : BitVec 3) : Option Locality :=
  if h : loc.toNat < 5 then some ⟨loc.toNat, h⟩ else none

/-- The page field of a locality (spec/20_memory.md R61). -/
def pageOf (l : Locality) : BitVec 3 := BitVec.ofNat 3 l.val

/-- The physical address of a page offset of a locality: BASE + l × 0x1000 + off (spec/20_memory.md R82). The device
itself is addressed by region offset (spec/92_eei_decisions.md D30). -/
def physicalAddress (p : Params) (l : Locality) (off : BitVec 12) : Nat := p.base + l.val * Config.pageSize + off.toNat

/-- n, the bytes of an access (spec/30_encoding.md R91). -/
def widthBytes : Width → Nat
  | .one => 1
  | .two => 2
  | .four => 4

/-- sizemask = (1 << 8n) − 1 (spec/30_encoding.md R97). -/
def sizeMask : Width → Word
  | .one => 0x000000FF#32
  | .two => 0x0000FFFF#32
  | .four => 0xFFFFFFFF#32

/-- shift = 8 × LANE (spec/30_encoding.md R97). -/
def laneShift (lane : BitVec 2) : Nat := 8 * lane.toNat

/-- The value a non-FIFO read returns from the register's 32-bit value (spec/40_dispatch.md R126). -/
def laneRead (r : Word) (n : Width) (lane : BitVec 2) : Word := (r >>> laneShift lane) &&& sizeMask n

/-- v' = v & sizemask (spec/40_dispatch.md R125). -/
def maskedData (v : Word) (n : Width) : Word := v &&& sizeMask n

/-- wv, the shifted write value (spec/40_dispatch.md R121, R125). -/
def laneWrite (v : Word) (n : Width) (lane : BitVec 2) : Word := maskedData v n <<< laneShift lane

/-- keep, the preserve-mask: the complement of the byte lanes the write covers (spec/40_dispatch.md R121, R125). -/
def laneKeep (n : Width) (lane : BitVec 2) : Word := ~~~(sizeMask n <<< laneShift lane)

/-- n' = min(n, 4 − LANE), the effective width of a FIFO access (spec/30_encoding.md R98). -/
def fifoWidth (n : Width) (lane : BitVec 2) : Nat := min (widthBytes n) (4 - lane.toNat)

/-- Byte k of a value, lowest first (spec/20_memory.md R63). -/
def byteOf (v : Word) (k : Nat) : Byte := (v >>> (8 * k)).setWidth 8

/-- The bytes a FIFO write delivers, lowest first; the value is not shifted by the lane (spec/42_fifo.md R170). -/
def fifoBytes (n : Width) (lane : BitVec 2) (v : Word) : List Byte :=
  (List.range (fifoWidth n lane)).map (byteOf (maskedData v n))

/-- The value of a byte string, first byte in bits [7:0] (spec/20_memory.md R64). -/
def wordOfBytes : List Byte → Word
  | [] => 0#32
  | b :: bs => b.setWidth 32 ||| (wordOfBytes bs <<< 8)

end Sys2Proof.Machine
end

