-- ==== Sys2Proof/Machine/Ops.lean ====
section
/-! DEFINITION. The named operations over the buffer, the locality records and the device: byte reads and writes, the
status-set and interrupt primitives, hand-over and abort, the FIFO's per-byte steps, the backend's calls, the reset
event, and the dispatcher's shared read and write pipelines. Each follows the pseudocode of the rule it names. -/

namespace Sys2Proof.Machine

/-! ## The buffer (spec/10_state.md R38) -/

/-- Byte a of the buffer. -/
def Memory.read : Memory → Nat → Byte
  | [], _ => Config.unlistedByte
  | (k, b) :: m, a => if k = a then b else Memory.read m a

/-- The buffer with byte a set to b, in canonical form again. -/
def Memory.write : Memory → Nat → Byte → Memory
  | [], a, b => if b = Config.unlistedByte then [] else [(a, b)]
  | (k, c) :: m, a, b =>
    if a < k then (if b = Config.unlistedByte then (k, c) :: m else (a, b) :: (k, c) :: m)
    else if a = k then (if b = Config.unlistedByte then m else (a, b) :: m)
    else (k, c) :: Memory.write m a b

/-- The bytes bs at addresses a, a+1, … -/
def Memory.writeBytes (m : Memory) (a : Nat) : List Byte → Memory
  | [] => m
  | b :: bs => Memory.writeBytes (Memory.write m a b) (a + 1) bs

/-- The bytes 0 .. len − 1. -/
def Memory.readFirst (m : Memory) (len : Nat) : List Byte := (List.range len).map (Memory.read m)

/-- Every address is above lo and below 4096, rising strictly, and no entry is the unlisted byte. -/
def Memory.wfFrom : Nat → Memory → Bool
  | _, [] => true
  | lo, (k, b) :: m =>
    decide (lo ≤ k) && decide (k < Config.bufferMax) && b != Config.unlistedByte && Memory.wfFrom (k + 1) m

/-- The canonical form of the buffer. -/
def Memory.wf (m : Memory) : Bool := Memory.wfFrom 0 m

/-- The big-endian size field, bytes 2 to 5 (spec/20_memory.md R66; log 11). -/
def Memory.be32 (m : Memory) : Word :=
  (Memory.read m 2 ++ Memory.read m 3 ++ Memory.read m 4 ++ Memory.read m 5 : BitVec 32)

/-! ## The locality records (spec/10_state.md R23) -/

/-- loc[l]. -/
def State.bank (s : State) (l : Locality) : Bank := s.loc[l]

/-- The state with loc[l] replaced. -/
def State.setBank (s : State) (l : Locality) (b : Bank) : State := { s with loc := s.loc.set l b }

/-- The state with every record k replaced by f k (loc[k]). -/
def State.mapBanks (s : State) (f : Locality → Bank → Bank) : State :=
  { s with loc := #v[f 0 (s.bank 0), f 1 (s.bank 1), f 2 (s.bank 2), f 3 (s.bank 3), f 4 (s.bank 4)] }

/-- loc[l].state ← x. -/
def State.setLocState (s : State) (l : Locality) (x : LocState) : State := s.setBank l { s.bank l with state := x }

/-- loc[l].access ← x. -/
def State.setAccess (s : State) (l : Locality) (x : BitVec 8) : State := s.setBank l { s.bank l with access := x }

/-- loc[l].sts ← x. -/
def State.setStsStore (s : State) (l : Locality) (x : Word) : State := s.setBank l { s.bank l with sts := x }

/-- loc[l].inte ← x. -/
def State.setInte (s : State) (l : Locality) (x : Word) : State := s.setBank l { s.bank l with inte := x }

/-- loc[l].ints ← x. -/
def State.setInts (s : State) (l : Locality) (x : Word) : State := s.setBank l { s.bank l with ints := x }

/-- Some locality is in EXECUTION (spec/44_abort.md R230). -/
def State.anyExecution (s : State) : Bool :=
  (List.finRange 5).any fun k => decide ((s.bank k).state = .execution)

/-- Some locality other than l has REQUEST_USE stored (spec/41_access.md R140). -/
def State.otherRequests (s : State) (l : Locality) : Bool :=
  (List.finRange 5).any fun k => decide (k ≠ l) && anySet (s.bank k).access accRequestUse

/-- Some locality above l has SEIZE stored (spec/41_access.md R145). -/
def State.higherSeize (s : State) (l : Locality) : Bool :=
  (List.finRange 5).any fun k => decide (l < k) && anySet (s.bank k).access accSeize

/-- The highest-numbered locality with REQUEST_USE stored (spec/41_access.md R143). -/
def State.highestRequester (s : State) : Option Locality :=
  ([4, 3, 2, 1, 0] : List Locality).find? fun k => anySet (s.bank k).access accRequestUse

/-! ## Primitives -/

/-- `sts_set(l, F)` (spec/10_state.md R44). -/
def stsSet (l : Locality) (flags : Word) (s : State) : State :=
  s.setStsStore l (stsReplace (s.bank l).sts flags)

/-- `raise_irq(l, mask)`, the interrupt primitive: the device's one asynchronous signal (spec/60_exceptions.md R310). -/
def raiseIrq (l : Option Locality) (mask : Word) (s : State) : State :=
  match l with
  | none => s
  | some l =>
    if anySet (s.bank l).inte intEnabled && anySet (s.bank l).inte mask then
      { s.setInts l (setBits (s.bank l).ints mask) with irqLine := true }
    else s

/-- The guest's acknowledgement: write-1-to-clear of loc[l].ints, lowering the line when the last bit goes
(spec/45_interrupt_regs.md R253, spec/60_exceptions.md R319). -/
def ackIrq (l : Locality) (wv : Word) (s : State) : State :=
  let c := wv &&& interruptsSupported
  let ints' := clearBits (s.bank l).ints c
  if c ≠ 0#32 ∧ (s.bank l).ints ≠ 0#32 then
    (if ints' = 0#32 then { s.setInts l ints' with irqLine := false } else s.setInts l ints')
  else s.setInts l ints'

/-- The fault set with one more reason (spec/10_state.md R42). -/
def FaultSet.add (f : FaultSet) : FaultReason → FaultSet
  | .refusedWidth => { f with refusedWidth := true }
  | .backendBusy => { f with backendBusy := true }
  | .bufferRace => { f with bufferRace := true }

/-- `fault <Name>`: record a reason; the step goes on (spec/60_exceptions.md R333). -/
def recordFault (r : FaultReason) (s : State) : State := { s with faults := s.faults.add r }

/-! ## The backend's calls (spec/47_backend.md R290) -/

/-- `submit(l)` (spec/47_backend.md R292, R301). -/
def submit (l : Locality) (s : State) : State :=
  let s := if s.beOutstanding then recordFault .backendBusy s else s
  { s with
    cmd := { locty := l, inLen := s.rwOffset, outCap := s.bufferSize }
    beIn := Memory.readFirst s.buffer s.rwOffset.toNat
    beOutstanding := true }

/-- `cancel()`: only counted (spec/47_backend.md R293). -/
def backendCancel (s : State) : State := { s with beCancels := s.beCancels + 1 }

/-- `reset_established_flag(l)` (spec/47_backend.md R294). -/
def resetEstablished (s : State) : State := { s with beEstablished := false }

/-! ## Hand-over and abort -/

/-- The old owner's ACCESS after it loses the interface to `new` (spec/41_access.md R148). -/
def oldOwnerAccess (s : State) (old : Locality) (new : Option Locality) : BitVec 8 :=
  let seized := match new with
    | some n => anySet (s.bank n).access accSeize
    | none => false
  if seized then setBits (clearBits (s.bank old).access accActiveLocality) accBeenSeized
  else clearBits (s.bank old).access (accActiveLocality ||| accRequestUse)

/-- First part of `new_active_locality`: the old owner gives up the interface (spec/41_access.md R148). -/
def dropOldOwner (new : Option Locality) (s : State) : State :=
  match s.activeLocty with
  | some old => if s.activeLocty ≠ new then s.setAccess old (oldOwnerAccess s old new) else s
  | none => s

/-- Second part of `new_active_locality`: the new owner takes it (spec/41_access.md R148). -/
def takeOwnership (new : Option Locality) (s : State) : State :=
  let s := { s with activeLocty := new }
  match new with
  | some n => s.setAccess n (clearBits (setBits (s.bank n).access accActiveLocality) (accRequestUse ||| accSeize))
  | none => s

/-- `new_active_locality(new)` (spec/41_access.md R148). -/
def newActiveLocality (new : Option Locality) (s : State) : State :=
  let change := decide (s.activeLocty ≠ new)
  let s := takeOwnership new (dropOldOwner new s)
  if change then raiseIrq new intLocalityChanged s else s

/-- The self-abort branch of `abort`: the locality goes to READY (spec/44_abort.md R231, R235). -/
def selfAbort (x : Locality) (s : State) : State :=
  raiseIrq (some x) intCommandReady (stsSet x stsCommandReady (s.setLocState x .ready))

/-- `abort()` (spec/44_abort.md R231). It is called only with nextLocty valid; with none the self-abort branch is skipped
(log 14). -/
def abort (s : State) : State :=
  let s := { s with rwOffset := 0#16 }
  let s := match s.nextLocty with
    | some x => if s.abortingLocty = some x then selfAbort x s else s
    | none => s
  let s := newActiveLocality s.nextLocty s
  { s with nextLocty := none, abortingLocty := none }

/-- `prep_abort(a, n)` (spec/44_abort.md R230). -/
def prepAbort (a : Option Locality) (n : Locality) (s : State) : State :=
  let s := { s with abortingLocty := a, nextLocty := some n }
  if s.anyExecution then backendCancel s else abort s

/-! ## The FIFO's per-byte steps -/

/-- min(be32(buffer, 2), buffer_size), the response length (spec/42_fifo.md R181). -/
def State.responseLen (s : State) : Nat := min (Memory.be32 s.buffer).toNat s.bufferSize.val

/-- `check_complete(l)` (spec/42_fifo.md R175, R176). -/
def checkComplete (l : Locality) (s : State) : State :=
  if 5 < s.rwOffset.toNat ∧ anySet (s.bank l).sts stsExpect then
    let needIrq := !anySet (s.bank l).sts stsValid
    let s := if s.rwOffset.toNat < (Memory.be32 s.buffer).toNat then stsSet l (stsExpect ||| stsValid) s
      else stsSet l stsValid s
    if needIrq then raiseIrq (some l) intStsValid s else s
  else s

/-- One byte appended at rw_offset, recording a buffer race (spec/42_fifo.md R173, R177). -/
def storeByte (b : Byte) (s : State) : State :=
  let s := if s.beOutstanding then recordFault .bufferRace s else s
  { s with buffer := Memory.write s.buffer s.rwOffset.toNat b, rwOffset := s.rwOffset + 1#16 }

/-- The loop of `fifowrite` over the bytes of one access (spec/42_fifo.md R170, R173, R174). The overflow branch clears
EXPECT, which ends the loop. -/
def appendBytes (l : Locality) : List Byte → State → State
  | [], s => s
  | b :: bs, s =>
    if anySet (s.bank l).sts stsExpect then
      if s.rwOffset.toNat < s.bufferSize.val then appendBytes l bs (checkComplete l (storeByte b s))
      else stsSet l stsValid s
    else s

/-- READY moves to RECEPTION before the bytes are taken (spec/42_fifo.md R172). -/
def enterReception (l : Locality) (s : State) : State :=
  match (s.bank l).state with
  | .ready => stsSet l (stsExpect ||| stsValid) (s.setLocState l .reception)
  | _ => s

/-- `fifowrite(l, n, lane, v')` on the bytes it delivers (spec/42_fifo.md R170, R171, R172). -/
def fifoWrite (l : Locality) (bytes : List Byte) (s : State) : State :=
  if s.activeLocty = some l then
    match (s.bank l).state with
    | .idle => s
    | .execution => s
    | .completion => s
    | .ready => appendBytes l bytes (enterReception l s)
    | .reception => appendBytes l bytes (enterReception l s)
  else s

/-- The byte `read_byte` takes from the buffer: 0xFF when the cursor stands at the capacity (spec/42_fifo.md R179). -/
def takeByte (s : State) : Byte × State :=
  if s.rwOffset.toNat < s.bufferSize.val then
    (Memory.read s.buffer s.rwOffset.toNat, { s with rwOffset := s.rwOffset + 1#16 })
  else (noDataByte, s)

/-- The end test of `read_byte`: after the last byte, VALID alone and STS_VALID raised (spec/42_fifo.md R179). -/
def endResponse (l : Locality) (s : State) : State :=
  if s.responseLen ≤ s.rwOffset.toNat then raiseIrq (some l) intStsValid (stsSet l stsValid s) else s

/-- `read_byte(l)` (spec/42_fifo.md R179). -/
def readByte (l : Locality) (s : State) : Byte × State :=
  if (s.bank l).state = .completion ∧ anySet (s.bank l).sts stsDataAvailable then
    let r := takeByte s
    (r.1, endResponse l r.2)
  else (noDataByte, s)

/-- k bytes read one after the other (spec/42_fifo.md R178). -/
def readBytes (l : Locality) : Nat → State → List Byte × State
  | 0, s => ([], s)
  | k + 1, s =>
    let r := readByte l s
    let rest := readBytes l k r.2
    (r.1 :: rest.1, rest.2)

/-- `fiforead(l, n, lane)` (spec/42_fifo.md R178, R180). -/
def fifoRead (n : Width) (lane : BitVec 2) (l : Locality) (s : State) : Word × State :=
  if s.activeLocty = some l then
    let r := readBytes l (fifoWidth n lane) s
    (wordOfBytes r.1, r.2)
  else (laneRead 0xFFFFFFFF#32 n lane, s)

/-! ## The status register (spec/43_sts.md) -/

/-- `stsread(l, n)` (spec/43_sts.md R200 to R202). -/
def stsRead (n : Width) (l : Locality) (s : State) : Word :=
  if s.activeLocty = some l then
    stsWithBurst
      (if anySet (s.bank l).sts stsDataAvailable then burstLeft s.responseLen s.rwOffset
        else burstFree n s.bufferSize.val s.rwOffset)
      (s.bank l).sts
  else 0#32

/-- COMMAND_CANCEL (spec/43_sts.md R204). -/
def cancelAction (l : Locality) (s : State) : State :=
  if (s.bank l).state = .execution then backendCancel s else s

/-- RESET_ESTABLISHMENT_BIT (spec/43_sts.md R205). -/
def resetEstAction (l : Locality) (s : State) : State :=
  if l = 3 ∨ l = 4 then resetEstablished s else s

/-- The COMPLETION case of COMMAND_READY (spec/43_sts.md R206). -/
def readyFromCompletion (l : Locality) (s : State) : State :=
  let s := { s with rwOffset := 0#16 }
  let s := s.setLocState l .ready
  let s := if anySet (s.bank l).sts stsCommandReady then s
    else raiseIrq (some l) intCommandReady (stsSet l stsCommandReady s)
  s.setStsStore l (clearBits (s.bank l).sts stsDataAvailable)

/-- The COMMAND_READY action (spec/43_sts.md R206). -/
def commandReady (l : Locality) (s : State) : State :=
  match (s.bank l).state with
  | .ready => { s with rwOffset := 0#16 }
  | .idle => raiseIrq (some l) intCommandReady ((stsSet l stsCommandReady s).setLocState l .ready)
  | .reception => prepAbort (some l) l s
  | .execution => prepAbort (some l) l s
  | .completion => readyFromCompletion l s

/-- The TPM_GO action (spec/43_sts.md R207). -/
def tpmGo (l : Locality) (s : State) : State :=
  if (s.bank l).state = .reception ∧ ¬anySet (s.bank l).sts stsExpect then
    (submit l s).setLocState l .execution
  else s

/-- The RESPONSE_RETRY action (spec/43_sts.md R208). -/
def responseRetry (l : Locality) (s : State) : State :=
  if (s.bank l).state = .completion then
    stsSet l (stsValid ||| stsDataAvailable) { s with rwOffset := 0#16 }
  else s

/-- Bits 24 and 25, handled before the action of the same write, on 2.0 backends only (spec/43_sts.md R203). -/
def stsExtraActions (l : Locality) (wv : Word) (s : State) : State :=
  if s.beTpmVersion = .v2_0 then
    let s := if anySet wv stsCommandCancel then cancelAction l s else s
    if anySet wv stsResetEstablishment then resetEstAction l s else s
  else s

/-- `stswrite(l, wv)` (spec/43_sts.md R203, R209). -/
def stsWrite (l : Locality) (wv : Word) (s : State) : State :=
  if s.activeLocty = some l then
    let s := stsExtraActions l wv s
    let a := wv &&& stsActions
    if a = stsCommandReady then commandReady l s
    else if a = stsTpmGo then tpmGo l s
    else if a = stsResponseRetry then responseRetry l s
    else s
  else s

/-! ## The ACCESS register (spec/41_access.md) -/

/-- The ACCESS read value (spec/41_access.md R140). -/
def accessRead (l : Locality) (s : State) : Word :=
  accessView (s.bank l).access (s.otherRequests l) s.beEstablished

/-- The working variables of an ACCESS write: the state so far, `cand` and `defer` (spec/41_access.md R141). -/
structure AccessWork where
  st : State
  cand : Option Locality
  deferred : Bool
deriving DecidableEq, Repr

/-- Step 1, seize masking (spec/41_access.md R142). -/
def accessStep1 (b : BitVec 8) : BitVec 8 :=
  if anySet b accSeize then clearBits b (accRequestUse ||| accActiveLocality) else b

/-- Step 2, release (spec/41_access.md R143). -/
def accessStep2 (l : Locality) (b : BitVec 8) (w : AccessWork) : AccessWork :=
  if anySet b accActiveLocality then
    if w.st.activeLocty = some l then
      match w.st.highestRequester with
      | some nl => { w with st := prepAbort (some l) nl w.st, deferred := true }
      | none => { w with cand := none }
    else { w with st := w.st.setAccess l (clearBits (w.st.bank l).access accRequestUse) }
  else w

/-- Step 3, clear own BEEN_SEIZED (spec/41_access.md R144). -/
def accessStep3 (l : Locality) (b : BitVec 8) (w : AccessWork) : AccessWork :=
  if anySet b accBeenSeized then
    { w with st := w.st.setAccess l (clearBits (w.st.bank l).access accBeenSeized) }
  else w

/-- l may seize: no locality is active, or l is strictly above the active one (spec/41_access.md R145). -/
def State.maySeize (s : State) (l : Locality) : Bool :=
  match s.activeLocty with
  | none => true
  | some a => decide (a < l)

/-- Cancel the seizes of the localities below l and record l's own (spec/41_access.md R145). -/
def recordSeize (l : Locality) (s : State) : State :=
  let s := s.mapBanks fun k b => if k < l then { b with access := clearBits b.access accSeize } else b
  s.setAccess l (setBits (s.bank l).access accSeize)

/-- Step 4, SEIZE (spec/41_access.md R145). -/
def accessStep4 (l : Locality) (b : BitVec 8) (w : AccessWork) : AccessWork :=
  if anySet b accSeize && w.st.maySeize l && !anySet (w.st.bank l).access accSeize && !w.st.higherSeize l then
    { w with st := prepAbort w.st.activeLocty l (recordSeize l w.st), deferred := true }
  else w

/-- Step 5, REQUEST_USE (spec/41_access.md R146). -/
def accessStep5 (l : Locality) (b : BitVec 8) (w : AccessWork) : AccessWork :=
  if anySet b accRequestUse && decide (w.st.activeLocty ≠ some l) then
    match w.st.activeLocty with
    | some _ => { w with st := w.st.setAccess l (setBits (w.st.bank l).access accRequestUse) }
    | none => { w with cand := some l }
  else w

/-- The final hand-over, unless a prep_abort took over (spec/41_access.md R147). -/
def accessFinish (w : AccessWork) : State :=
  if w.deferred then w.st else newActiveLocality w.cand w.st

/-- `regwrite(l, ACCESS, wv, keep)`; only bits 1, 3, 4 and 5 of wv act (spec/41_access.md R141). -/
def accessWrite (l : Locality) (wv : Word) (s : State) : State :=
  let b := accessStep1 (wv.setWidth 8)
  let w : AccessWork := { st := s, cand := s.activeLocty, deferred := false }
  accessFinish (accessStep5 l b (accessStep4 l b (accessStep3 l b (accessStep2 l b w))))

/-! ## Interrupt and identification registers -/

/-- The INT_ENABLE write merge (spec/45_interrupt_regs.md R251). -/
def intEnableWrite (l : Locality) (wv keep : Word) (s : State) : State :=
  if s.activeLocty = some l then s.setInte l (((s.bank l).inte &&& keep) ||| (wv &&& inteWritable)) else s

/-- The INT_STATUS write (spec/45_interrupt_regs.md R253). -/
def intStatusWrite (l : Locality) (wv : Word) (s : State) : State :=
  if s.activeLocty = some l then ackIrq l wv s else s

/-- The INTERFACE_ID write: INT_SEL_LOCK into every locality (spec/46_id_regs.md R275). -/
def interfaceIdWrite (wv : Word) (s : State) : State :=
  if anySet wv ifaceIntSelLock then
    s.mapBanks fun _ b => { b with ifaceId := setBits b.ifaceId ifaceIntSelLock }
  else s

/-! ## Events -/

/-- SELFTEST_DONE OR'd into every locality's sts (spec/47_backend.md R298). -/
def markSelftest (selftest : Bool) (s : State) : State :=
  if selftest then s.mapBanks fun _ b => { b with sts := setBits b.sts stsSelftestDone } else s

/-- The body of the COMPLETE event (spec/47_backend.md R296). -/
def completeCommand (resp : List Byte) (selftest : Bool) (est : Bool) (s : State) : State :=
  let l := s.cmd.locty
  let s := { s with
    buffer := Memory.writeBytes s.buffer 0 resp
    beEstablished := est
    beOutstanding := false }
  let s := markSelftest selftest s
  let s := stsSet l (stsValid ||| stsDataAvailable) s
  let s := s.setLocState l .completion
  let s := { s with rwOffset := 0#16 }
  let s := if s.nextLocty.isSome then abort s else s
  raiseIrq (some l) (intDataAvailable ||| intStsValid) s

/-- What a reset event does to the interrupt line (spec/70_reset_and_hazards.md R350). -/
def irqLineAfterReset (p : IrqLineAtReset) (line : Bool) : Bool :=
  match p with
  | .unchanged => line
  | .deasserted => false

/-- The RESET event (spec/70_reset_and_hazards.md R350, R354). -/
def resetDevice (ver : TpmVersion) (raw : Nat) (err est : Bool) (s : State) : State :=
  { s with
    beTpmVersion := ver
    bufferSize := clampBufferSize raw
    beStartupError := err
    beEstablished := est
    beOutstanding := false
    activeLocty := none
    nextLocty := none
    abortingLocty := none
    rwOffset := 0#16
    loc := Vector.replicate 5 (Bank.reset ver)
    irqLine := irqLineAfterReset s.params.irqLineAtReset s.irqLine }

/-! ## The dispatcher's pipelines (spec/40_dispatch.md) -/

/-- The event returns no value. -/
def State.quiet (s : State) : State := { s with reply := .none }

/-- The device returns a value of the access width. -/
def State.answer (s : State) (n : Width) (v : Word) : State := { s with reply := .device n v }

/-- A read outside the region: the platform answers, the device's state is unchanged (spec/20_memory.md R62; log 6). -/
def outOfWindowRead (n : Width) (s : State) : State :=
  { s with reply := .platform n (Config.outOfWindow s.freeCount &&& sizeMask n), freeCount := s.freeCount + 1 }

/-- The read pipeline: out of the region, startup error, then the register (spec/40_dispatch.md R120, R122;
spec/60_exceptions.md R317). -/
def busRead (n : Width) (loc : BitVec 3) (serve : Locality → State → Word × State) (s : State) : State :=
  match localityOf loc with
  | none => outOfWindowRead n s
  | some l =>
    if s.beStartupError then s.answer n 0#32
    else
      let r := serve l s
      r.2.answer n r.1

/-- A read of a non-FIFO register: shifted by the lane, masked to the width (spec/40_dispatch.md R120, R126). -/
def regRead (n : Width) (loc : BitVec 3) (lane : BitVec 2) (value : Locality → State → Word) (s : State) : State :=
  busRead n loc (fun l s => (laneRead (value l s) n lane, s)) s

/-- The write pipeline: out of the region, locality 4, startup error, then the register (spec/40_dispatch.md R121 to
R123; spec/60_exceptions.md R317). -/
def busWrite (loc : BitVec 3) (serve : Locality → State → State) (s : State) : State :=
  match localityOf loc with
  | none => s.quiet
  | some l => if l = 4 then s.quiet else if s.beStartupError then s.quiet else (serve l s).quiet

/-! ## Delivery of events -/

/-- The oldest undelivered event and the state without it (spec/20_memory.md R71; log 1). -/
def nextInput (s : State) : Option (Input × State) :=
  match s.inputs with
  | [] => none
  | x :: rest => some (x, { s with inputs := rest })

/-- The state with one more event, delivered before the others (log 1). -/
def deliverFirst (x : Input) (s : State) : State := { s with inputs := x :: s.inputs }

end Sys2Proof.Machine
end

