-- ==== Sys2Proof/Machine/Access.lean ====
section
/-! DEFINITION. The meanings of RD_ACCESS and WR_ACCESS, the arbiter's interface (spec/41_access.md). -/

namespace Sys2Proof.Machine

/-- spec/41_access.md R140. -/
def execRdAccess (n : Width) (loc : BitVec 3) (lane : BitVec 2) (s : State) : Host.Outcome State Fault Refusal :=
  .next (regRead n loc lane accessRead s)

/-- spec/41_access.md R141 to R148. -/
def execWrAccess (n : Width) (loc : BitVec 3) (lane : BitVec 2) (v : Word) (s : State) :
    Host.Outcome State Fault Refusal :=
  .next (busWrite loc (fun l s => accessWrite l (laneWrite v n lane) s) s)

end Sys2Proof.Machine
end

