-- ==== Sys2Proof/Machine/Events.lean ====
section
/-! DEFINITION. The meanings of the two addressless events: the backend's completion (spec/47_backend.md R296) and the
platform's reset (spec/70_reset_and_hazards.md R350). -/

namespace Sys2Proof.Machine

/-- COMPLETE. The return code has no effect (spec/47_backend.md R299). Enabled only while a command is outstanding
(R296, R302; log 8); a response over cmd.out_cap is outside its operands (R296; log 9). -/
def execComplete (resp : List Byte) (selftest : Bool) (_ret : Int) (est : Bool) (s : State) :
    Host.Outcome State Fault Refusal :=
  if s.beOutstanding then
    if resp.length ≤ s.cmd.outCap.val then .next (completeCommand resp selftest est s).quiet
    else .fault .responseOverCapacity
  else .refused .completionNotEnabled

/-- RESET (spec/70_reset_and_hazards.md R350). -/
def execReset (ver : TpmVersion) (raw : Nat) (err : Bool) (est : Bool) (s : State) :
    Host.Outcome State Fault Refusal :=
  .next (resetDevice ver raw err est s).quiet

end Sys2Proof.Machine
end

