-- ==== Sys2Proof/Machine/Fifo.lean ====
section
/-! DEFINITION. The meanings of the FIFO transactions: DATA_FIFO and its alias window DATA_XFIFO, whose 16 dwords are the
same port (spec/42_fifo.md, spec/30_encoding.md R95). -/

namespace Sys2Proof.Machine

/-- spec/42_fifo.md R178 to R182. -/
def execRdDataFifo (n : Width) (loc : BitVec 3) (lane : BitVec 2) (s : State) : Host.Outcome State Fault Refusal :=
  .next (busRead n loc (fifoRead n lane) s)

/-- spec/42_fifo.md R170 to R177. -/
def execWrDataFifo (n : Width) (loc : BitVec 3) (lane : BitVec 2) (v : Word) (s : State) :
    Host.Outcome State Fault Refusal :=
  .next (busWrite loc (fun l s => fifoWrite l (fifoBytes n lane v) s) s)

/-- spec/42_fifo.md R178 to R182; which dword of the window is used makes no difference. -/
def execRdDataXfifo (n : Width) (loc : BitVec 3) (_dword : BitVec 4) (lane : BitVec 2) (s : State) :
    Host.Outcome State Fault Refusal :=
  .next (busRead n loc (fifoRead n lane) s)

/-- spec/42_fifo.md R170 to R177; which dword of the window is used makes no difference. -/
def execWrDataXfifo (n : Width) (loc : BitVec 3) (_dword : BitVec 4) (lane : BitVec 2) (v : Word) (s : State) :
    Host.Outcome State Fault Refusal :=
  .next (busWrite loc (fun l s => fifoWrite l (fifoBytes n lane v) s) s)

end Sys2Proof.Machine
end

