-- ==== Sys2Proof/Machine/Identification.lean ====
section
/-! DEFINITION. The meanings of the transactions on INTF_CAPABILITY, INTERFACE_ID, DID_VID and RID
(spec/46_id_regs.md). -/

namespace Sys2Proof.Machine

/-- spec/46_id_regs.md R270. -/
def execRdIntfCapability (n : Width) (loc : BitVec 3) (lane : BitVec 2) (s : State) :
    Host.Outcome State Fault Refusal :=
  .next (regRead n loc lane (fun _ s => intfCapability s.beTpmVersion) s)

/-- The write is ignored (spec/46_id_regs.md R272). -/
def execWrIntfCapability (_n : Width) (loc : BitVec 3) (_lane : BitVec 2) (_v : Word) (s : State) :
    Host.Outcome State Fault Refusal :=
  .next (busWrite loc (fun _ s => s) s)

/-- spec/46_id_regs.md R273. -/
def execRdInterfaceId (n : Width) (loc : BitVec 3) (lane : BitVec 2) (s : State) :
    Host.Outcome State Fault Refusal :=
  .next (regRead n loc lane (fun l s => (s.bank l).ifaceId) s)

/-- spec/46_id_regs.md R275. -/
def execWrInterfaceId (n : Width) (loc : BitVec 3) (lane : BitVec 2) (v : Word) (s : State) :
    Host.Outcome State Fault Refusal :=
  .next (busWrite loc (fun _ s => interfaceIdWrite (laneWrite v n lane) s) s)

/-- spec/46_id_regs.md R276. -/
def execRdDidVid (n : Width) (loc : BitVec 3) (lane : BitVec 2) (s : State) : Host.Outcome State Fault Refusal :=
  .next (regRead n loc lane (fun _ _ => didVid) s)

/-- The write is ignored (spec/46_id_regs.md R278). -/
def execWrDidVid (_n : Width) (loc : BitVec 3) (_lane : BitVec 2) (_v : Word) (s : State) :
    Host.Outcome State Fault Refusal :=
  .next (busWrite loc (fun _ s => s) s)

/-- spec/46_id_regs.md R277. -/
def execRdRid (n : Width) (loc : BitVec 3) (lane : BitVec 2) (s : State) : Host.Outcome State Fault Refusal :=
  .next (regRead n loc lane (fun _ _ => rid) s)

/-- The write is ignored (spec/46_id_regs.md R278). -/
def execWrRid (_n : Width) (loc : BitVec 3) (_lane : BitVec 2) (_v : Word) (s : State) :
    Host.Outcome State Fault Refusal :=
  .next (busWrite loc (fun _ s => s) s)

end Sys2Proof.Machine
end

