-- ==== Sys2Proof/Machine/Interrupts.lean ====
section
/-! DEFINITION. The meanings of the transactions on INT_ENABLE, INT_STATUS and INT_VECTOR (spec/45_interrupt_regs.md). -/

namespace Sys2Proof.Machine

/-- spec/45_interrupt_regs.md R250. -/
def execRdIntEnable (n : Width) (loc : BitVec 3) (lane : BitVec 2) (s : State) : Host.Outcome State Fault Refusal :=
  .next (regRead n loc lane (fun l s => (s.bank l).inte) s)

/-- spec/45_interrupt_regs.md R251. -/
def execWrIntEnable (n : Width) (loc : BitVec 3) (lane : BitVec 2) (v : Word) (s : State) :
    Host.Outcome State Fault Refusal :=
  .next (busWrite loc (fun l s => intEnableWrite l (laneWrite v n lane) (laneKeep n lane) s) s)

/-- INT_VECTOR reads IRQ_NUM, zero-extended (spec/45_interrupt_regs.md R254). -/
def execRdIntVector (n : Width) (loc : BitVec 3) (lane : BitVec 2) (s : State) : Host.Outcome State Fault Refusal :=
  .next (regRead n loc lane (fun _ s => s.params.irqNum.setWidth 32) s)

/-- The write is ignored (spec/45_interrupt_regs.md R255). -/
def execWrIntVector (_n : Width) (loc : BitVec 3) (_lane : BitVec 2) (_v : Word) (s : State) :
    Host.Outcome State Fault Refusal :=
  .next (busWrite loc (fun _ s => s) s)

/-- spec/45_interrupt_regs.md R252. -/
def execRdIntStatus (n : Width) (loc : BitVec 3) (lane : BitVec 2) (s : State) : Host.Outcome State Fault Refusal :=
  .next (regRead n loc lane (fun l s => (s.bank l).ints) s)

/-- spec/45_interrupt_regs.md R253. -/
def execWrIntStatus (n : Width) (loc : BitVec 3) (lane : BitVec 2) (v : Word) (s : State) :
    Host.Outcome State Fault Refusal :=
  .next (busWrite loc (fun l s => intStatusWrite l (laneWrite v n lane) s) s)

end Sys2Proof.Machine
end

