-- ==== Sys2Proof/Machine/Pipeline.lean ====
section
/-! DEFINITION. The meanings of the dispatcher's own rows: the refused width, writes to locality 4, unlisted offsets
(spec/40_dispatch.md). -/

namespace Sys2Proof.Machine

/-- A width other than 1, 2 or 4: the fault REFUSED_WIDTH is recorded, nothing else is performed
(spec/30_encoding.md R92, spec/60_exceptions.md R333). -/
def execRefusedWidth (_w : Bool) (_loc : BitVec 3) (_reg : BitVec 10) (_lane : BitVec 2) (_v : Word) (s : State) :
    Host.Outcome State Fault Refusal :=
  .next (recordFault .refusedWidth s).quiet

/-- A write to locality 4 is dropped (spec/40_dispatch.md R123). -/
def execWrLocality4 (_n : Width) (_reg : BitVec 10) (_lane : BitVec 2) (_v : Word) (s : State) :
    Host.Outcome State Fault Refusal :=
  .next s.quiet

/-- A read of an unlisted offset (spec/40_dispatch.md R127). -/
def execRdUnmapped (n : Width) (loc : BitVec 3) (_reg : BitVec 10) (lane : BitVec 2) (s : State) :
    Host.Outcome State Fault Refusal :=
  .next (regRead n loc lane (fun _ _ => unmappedValue) s)

/-- A write of an unlisted offset is ignored (spec/40_dispatch.md R128). -/
def execWrUnmapped (_n : Width) (loc : BitVec 3) (_reg : BitVec 10) (_lane : BitVec 2) (_v : Word) (s : State) :
    Host.Outcome State Fault Refusal :=
  .next (busWrite loc (fun _ s => s) s)

end Sys2Proof.Machine
end

