-- ==== Sys2Proof/Machine/Status.lean ====
section
/-! DEFINITION. The meanings of RD_STS and WR_STS, the command protocol's status and actions (spec/43_sts.md). -/

namespace Sys2Proof.Machine

/-- spec/43_sts.md R200 to R202. -/
def execRdSts (n : Width) (loc : BitVec 3) (lane : BitVec 2) (s : State) : Host.Outcome State Fault Refusal :=
  .next (regRead n loc lane (stsRead n) s)

/-- spec/43_sts.md R203 to R209. -/
def execWrSts (n : Width) (loc : BitVec 3) (lane : BitVec 2) (v : Word) (s : State) :
    Host.Outcome State Fault Refusal :=
  .next (busWrite loc (fun l s => stsWrite l (laneWrite v n lane) s) s)

end Sys2Proof.Machine
end

