-- ==== Sys2Proof/Machine/Dispatch.lean ====
section
/-! DEFINITION. What each instruction does: one arm per row of spec/opcode_table.json, each one call of its meaning. -/

namespace Sys2Proof.Machine

def exec (i : Instr) (s : State) : Host.Outcome State Fault Refusal :=
  match i with
  | .refusedWidth w loc reg lane v => Sys2Proof.Machine.execRefusedWidth w loc reg lane v s
  | .wrLocality4 n reg lane v => Sys2Proof.Machine.execWrLocality4 n reg lane v s
  | .rdAccess n loc lane => Sys2Proof.Machine.execRdAccess n loc lane s
  | .wrAccess n loc lane v => Sys2Proof.Machine.execWrAccess n loc lane v s
  | .rdIntEnable n loc lane => Sys2Proof.Machine.execRdIntEnable n loc lane s
  | .wrIntEnable n loc lane v => Sys2Proof.Machine.execWrIntEnable n loc lane v s
  | .rdIntVector n loc lane => Sys2Proof.Machine.execRdIntVector n loc lane s
  | .wrIntVector n loc lane v => Sys2Proof.Machine.execWrIntVector n loc lane v s
  | .rdIntStatus n loc lane => Sys2Proof.Machine.execRdIntStatus n loc lane s
  | .wrIntStatus n loc lane v => Sys2Proof.Machine.execWrIntStatus n loc lane v s
  | .rdIntfCapability n loc lane => Sys2Proof.Machine.execRdIntfCapability n loc lane s
  | .wrIntfCapability n loc lane v => Sys2Proof.Machine.execWrIntfCapability n loc lane v s
  | .rdSts n loc lane => Sys2Proof.Machine.execRdSts n loc lane s
  | .wrSts n loc lane v => Sys2Proof.Machine.execWrSts n loc lane v s
  | .rdDataFifo n loc lane => Sys2Proof.Machine.execRdDataFifo n loc lane s
  | .wrDataFifo n loc lane v => Sys2Proof.Machine.execWrDataFifo n loc lane v s
  | .rdInterfaceId n loc lane => Sys2Proof.Machine.execRdInterfaceId n loc lane s
  | .wrInterfaceId n loc lane v => Sys2Proof.Machine.execWrInterfaceId n loc lane v s
  | .rdDataXfifo n loc dword lane => Sys2Proof.Machine.execRdDataXfifo n loc dword lane s
  | .wrDataXfifo n loc dword lane v => Sys2Proof.Machine.execWrDataXfifo n loc dword lane v s
  | .rdDidVid n loc lane => Sys2Proof.Machine.execRdDidVid n loc lane s
  | .wrDidVid n loc lane v => Sys2Proof.Machine.execWrDidVid n loc lane v s
  | .rdRid n loc lane => Sys2Proof.Machine.execRdRid n loc lane s
  | .wrRid n loc lane v => Sys2Proof.Machine.execWrRid n loc lane v s
  | .rdUnmapped n loc reg lane => Sys2Proof.Machine.execRdUnmapped n loc reg lane s
  | .wrUnmapped n loc reg lane v => Sys2Proof.Machine.execWrUnmapped n loc reg lane v s
  | .complete resp selftest ret est => Sys2Proof.Machine.execComplete resp selftest ret est s
  | .reset ver raw err est => Sys2Proof.Machine.execReset ver raw err est s

end Sys2Proof.Machine
end

