-- ==== Sys2Proof/Machine/Step.lean ====
section
/-! DEFINITION. One step: the oldest undelivered event is taken, decoded and executed (spec/20_memory.md R71, R78; log 1).
With no event the passive device stays as it is (spec/00_scope.md R3, spec/10_state.md R21). -/

namespace Sys2Proof.Machine

def step (s : State) : Host.Outcome State Fault Refusal :=
  match nextInput s with
  | none => .next s
  | some (x, s') =>
    match decode x with
    | .ok i => exec i s'
    | .error _ => .refused .notAnEvent

/-- The transaction of a word of spec/opcode_table.json is the next event delivered (log 1, log 12). -/
def State.withFetchWord (s : State) (nbits w : Nat) : State := deliverFirst (busWord nbits w) s

end Sys2Proof.Machine
end

