-- ==== Sys2Proof/Safety.lean ====
section
/-! DEFINITION. The terms the claims use: the device's invariants (spec/10_state.md R46 and the rules it is derived from),
a good run (R42), the allowed moves of the per-locality state machine (R25), and which instructions read and write through
which page. -/

namespace Sys2Proof.Machine

/-- No fault reason has been recorded: the run has a specified outcome (spec/10_state.md R42, spec/60_exceptions.md R333). -/
def FaultSet.empty : FaultSet := { refusedWidth := false, backendBusy := false, bufferRace := false }

/-- The invariant of the device: it holds after every power-on and every step keeps it. The field names say which piece
of state each part is about. -/
structure DeviceInv (s : State) : Prop where
  /-- The buffer is in canonical form, all its addresses below 4096 (spec/10_state.md R38). -/
  buffer_wf : Memory.wf s.buffer = true
  /-- 1 ≤ buffer_size ≤ 4096 (spec/00_scope.md R12; the upper bound is in the type). -/
  size_pos : 1 ≤ s.bufferSize.val
  /-- 0 ≤ rw_offset ≤ buffer_size (spec/10_state.md R46 (3)). -/
  cursor_bound : s.rwOffset.toNat ≤ s.bufferSize.val
  /-- ACTIVE_LOCALITY is stored in the active locality and in no other (R46 (1), (2)). -/
  owner_flag : ∀ k, anySet (s.bank k).access accActiveLocality = true ↔ s.activeLocty = some k
  /-- The active locality has neither REQUEST_USE nor SEIZE stored (R46 (6)). -/
  owner_clean : ∀ k, s.activeLocty = some k →
    anySet (s.bank k).access accRequestUse = false ∧ anySet (s.bank k).access accSeize = false
  /-- ACCESS bit 7 is stored as 1, bits 0, 2 and 6 as 0 (R27, R46 (7)). -/
  access_fixed : ∀ k, (s.bank k).access &&& 0xC5#8 = 0x80#8
  /-- Every STS bit but the stored flags 2, 3, 4, 6, 7 is as the reset left it: the family field of the version, the
  rest 0 (R29, R30). -/
  sts_fixed : ∀ k, (s.bank k).sts &&& 0xFFFFFF23#32 = stsReset s.beTpmVersion
  /-- ints ⊆ INTERRUPTS_SUPPORTED (R32, R46 (5)). -/
  ints_supported : ∀ k, (s.bank k).ints &&& 0xFFFFFF78#32 = 0#32
  /-- inte ⊆ INTE_WRITABLE (R31). -/
  inte_writable : ∀ k, (s.bank k).inte &&& 0x7FFFFF60#32 = 0#32
  /-- All five INTERFACE_ID values are equal (R33, R46 (8)). -/
  iface_equal : ∀ k, (s.bank k).ifaceId = (s.bank 0).ifaceId
  /-- INTERFACE_ID is its reset value, or that with INT_SEL_LOCK set (R33). -/
  iface_value : (s.bank 0).ifaceId = ifaceReset s.beTpmVersion ∨
    (s.bank 0).ifaceId = ifaceReset s.beTpmVersion ||| ifaceIntSelLock
  /-- Locality 4 never owns the interface, never waits for it, and its ACCESS stays at the reset value
  (spec/40_dispatch.md R123). -/
  locality4_passive : s.activeLocty ≠ some 4 ∧ s.nextLocty ≠ some 4 ∧ (s.bank 4).access = accRegValidSts
  /-- With no hand-over pending, aborting_locty is NO_LOCALITY too (spec/10_state.md R35). -/
  aborting_pending : s.nextLocty = none → s.abortingLocty = none
  /-- A pending self-abort is of a locality in RECEPTION or EXECUTION (spec/44_abort.md R235). -/
  self_abort_state : ∀ l, s.nextLocty = some l → s.abortingLocty = some l →
    (s.bank l).state = .reception ∨ (s.bank l).state = .execution
  /-- The outstanding command's capacity is buffer_size (spec/10_state.md R39). -/
  out_cap : s.beOutstanding = true → s.cmd.outCap = s.bufferSize
  /-- The outstanding command's snapshot has in_len bytes, at most buffer_size (spec/47_backend.md R292). -/
  in_len : s.beOutstanding = true → s.beIn.length = s.cmd.inLen.toNat ∧ s.cmd.inLen.toNat ≤ s.bufferSize.val

/-- What holds besides while no fault has been recorded (spec/10_state.md R46 (9), spec/44_abort.md R230). -/
structure BackendInv (s : State) : Prop where
  /-- Exactly the submitting locality of the outstanding command is in EXECUTION. -/
  execution_outstanding : ∀ k, (s.bank k).state = .execution ↔ (s.beOutstanding = true ∧ s.cmd.locty = k)
  /-- A pending hand-over waits for an outstanding command. -/
  pending_outstanding : s.nextLocty ≠ none → s.beOutstanding = true

/-- The moves of one locality's state inside one guest transaction: the rows of the table of spec/10_state.md R25 that a
guest write performs, and no move. -/
def guestMove : LocState → LocState → Bool
  | .idle, .ready => true
  | .ready, .reception => true
  | .reception, .execution => true
  | .reception, .ready => true
  | .completion, .ready => true
  | a, b => decide (a = b)

/-- The width and the page field of a read transaction. -/
def readOf : Instr → Option (Width × BitVec 3)
  | .refusedWidth _ _ _ _ _ => none
  | .wrLocality4 _ _ _ _ => none
  | .rdAccess n loc _ => some (n, loc)
  | .wrAccess _ _ _ _ => none
  | .rdIntEnable n loc _ => some (n, loc)
  | .wrIntEnable _ _ _ _ => none
  | .rdIntVector n loc _ => some (n, loc)
  | .wrIntVector _ _ _ _ => none
  | .rdIntStatus n loc _ => some (n, loc)
  | .wrIntStatus _ _ _ _ => none
  | .rdIntfCapability n loc _ => some (n, loc)
  | .wrIntfCapability _ _ _ _ => none
  | .rdSts n loc _ => some (n, loc)
  | .wrSts _ _ _ _ => none
  | .rdDataFifo n loc _ => some (n, loc)
  | .wrDataFifo _ _ _ _ => none
  | .rdInterfaceId n loc _ => some (n, loc)
  | .wrInterfaceId _ _ _ _ => none
  | .rdDataXfifo n loc _ _ => some (n, loc)
  | .wrDataXfifo _ _ _ _ _ => none
  | .rdDidVid n loc _ => some (n, loc)
  | .wrDidVid _ _ _ _ => none
  | .rdRid n loc _ => some (n, loc)
  | .wrRid _ _ _ _ => none
  | .rdUnmapped n loc _ _ => some (n, loc)
  | .wrUnmapped _ _ _ _ _ => none
  | .complete _ _ _ _ => none
  | .reset _ _ _ _ => none

/-- The page field of a write transaction. -/
def writeOf : Instr → Option (BitVec 3)
  | .refusedWidth _ _ _ _ _ => none
  | .wrLocality4 _ _ _ _ => some 4#3
  | .rdAccess _ _ _ => none
  | .wrAccess _ loc _ _ => some loc
  | .rdIntEnable _ _ _ => none
  | .wrIntEnable _ loc _ _ => some loc
  | .rdIntVector _ _ _ => none
  | .wrIntVector _ loc _ _ => some loc
  | .rdIntStatus _ _ _ => none
  | .wrIntStatus _ loc _ _ => some loc
  | .rdIntfCapability _ _ _ => none
  | .wrIntfCapability _ loc _ _ => some loc
  | .rdSts _ _ _ => none
  | .wrSts _ loc _ _ => some loc
  | .rdDataFifo _ _ _ => none
  | .wrDataFifo _ loc _ _ => some loc
  | .rdInterfaceId _ _ _ => none
  | .wrInterfaceId _ loc _ _ => some loc
  | .rdDataXfifo _ _ _ _ => none
  | .wrDataXfifo _ loc _ _ _ => some loc
  | .rdDidVid _ _ _ => none
  | .wrDidVid _ loc _ _ => some loc
  | .rdRid _ _ _ => none
  | .wrRid _ loc _ _ => some loc
  | .rdUnmapped _ _ _ _ => none
  | .wrUnmapped _ loc _ _ _ => some loc
  | .complete _ _ _ _ => none
  | .reset _ _ _ _ => none

/-- A read of the FIFO port, the only read with side effects (spec/20_memory.md R76). -/
def isFifoRead : Instr → Bool
  | .refusedWidth _ _ _ _ _ => false
  | .wrLocality4 _ _ _ _ => false
  | .rdAccess _ _ _ => false
  | .wrAccess _ _ _ _ => false
  | .rdIntEnable _ _ _ => false
  | .wrIntEnable _ _ _ _ => false
  | .rdIntVector _ _ _ => false
  | .wrIntVector _ _ _ _ => false
  | .rdIntStatus _ _ _ => false
  | .wrIntStatus _ _ _ _ => false
  | .rdIntfCapability _ _ _ => false
  | .wrIntfCapability _ _ _ _ => false
  | .rdSts _ _ _ => false
  | .wrSts _ _ _ _ => false
  | .rdDataFifo _ _ _ => true
  | .wrDataFifo _ _ _ _ => false
  | .rdInterfaceId _ _ _ => false
  | .wrInterfaceId _ _ _ _ => false
  | .rdDataXfifo _ _ _ _ => true
  | .wrDataXfifo _ _ _ _ _ => false
  | .rdDidVid _ _ _ => false
  | .wrDidVid _ _ _ _ => false
  | .rdRid _ _ _ => false
  | .wrRid _ _ _ _ => false
  | .rdUnmapped _ _ _ _ => false
  | .wrUnmapped _ _ _ _ _ => false
  | .complete _ _ _ _ => false
  | .reset _ _ _ _ => false

/-- An event of the backend or of the platform, not a transaction of the guest. -/
def isEvent : Instr → Bool
  | .refusedWidth _ _ _ _ _ => false
  | .wrLocality4 _ _ _ _ => false
  | .rdAccess _ _ _ => false
  | .wrAccess _ _ _ _ => false
  | .rdIntEnable _ _ _ => false
  | .wrIntEnable _ _ _ _ => false
  | .rdIntVector _ _ _ => false
  | .wrIntVector _ _ _ _ => false
  | .rdIntStatus _ _ _ => false
  | .wrIntStatus _ _ _ _ => false
  | .rdIntfCapability _ _ _ => false
  | .wrIntfCapability _ _ _ _ => false
  | .rdSts _ _ _ => false
  | .wrSts _ _ _ _ => false
  | .rdDataFifo _ _ _ => false
  | .wrDataFifo _ _ _ _ => false
  | .rdInterfaceId _ _ _ => false
  | .wrInterfaceId _ _ _ _ => false
  | .rdDataXfifo _ _ _ _ => false
  | .wrDataXfifo _ _ _ _ _ => false
  | .rdDidVid _ _ _ => false
  | .wrDidVid _ _ _ _ => false
  | .rdRid _ _ _ => false
  | .wrRid _ _ _ _ => false
  | .rdUnmapped _ _ _ _ => false
  | .wrUnmapped _ _ _ _ _ => false
  | .complete _ _ _ _ => true
  | .reset _ _ _ _ => true

/-- Instructions executed one after the other, stopping at the first fault or refusal. -/
def execAll : List Instr → State → Host.Outcome State Fault Refusal
  | [], s => .next s
  | i :: is, s =>
    match exec i s with
    | .next t => execAll is t
    | .fault r => .fault r
    | .refused r => .refused r

/-- A command sent through DATA_FIFO byte by byte from a locality: SEND of spec/30_encoding.md R103. -/
def sendInstrs (l : Locality) (command : List Byte) : List Instr :=
  command.map fun b => .wrDataFifo .one (pageOf l) 0#2 (b.setWidth 32)

/-- The memory whose first bytes are the given string and whose other bytes are the unlisted byte. -/
def Memory.ofBytes (bs : List Byte) : Memory := Memory.writeBytes [] 0 bs

end Sys2Proof.Machine
end

