-- ==== Sys2Proof/Certificates/Slice0/Obligations.lean ====
section
/-! DEFINITION. The statements for the provers. Register masks are written as the numbers of spec/10_state.md R43, so that a
statement pins the constants too; `0x0C000004` is STS_PERSIST. Where a next state is given as one expression, everything
the expression does not name is unchanged: that is the statement's frame. -/

open Sys2Proof Sys2Proof.Machine

/-! ## Encoding (spec/30_encoding.md) -/

/-- No bit of an encoding is dropped: decoding the encoding of a well-formed instruction gives it back, with every operand
at every value (spec/30_encoding.md R90, R91, R93, R102). -/
def Obligations.DecodeEncodeRoundTrip : Prop :=
  ∀ i : Instr, i.wf = true → decode (encode i) = .ok i

/-- Every transaction word spells one transaction: encoding what it decodes to gives the word back, with the data operand
of a write or of a refused word, and 0 for a read, which has none (spec/30_encoding.md R90, R91). -/
def Obligations.EncodeDecodeRoundTrip : Prop :=
  ∀ (tw : BitVec 18) (data : Word),
    encode (decodeBus tw data) = .bus tw (if (readOf (decodeBus tw data)).isSome then 0#32 else data)

/-- The decoder, which reads the fields of R91 in the order of R96, picks for every word the first row of the opcode table
whose `TW & mask == match` (spec/30_encoding.md R94, R96, R104). -/
def Obligations.DecodeIsTableFirstMatch : Prop :=
  ∀ (tw : BitVec 18) (data : Word),
    (opcodeRows.find? fun r => r.applies tw).map OpcodeRow.mnemonic = some (decodeBus tw data).mnemonic

/-- Whatever the decoder accepts is well-formed: no write row below WR_LOCALITY4 with page 4, no unlisted row with a listed
register, no response over 4096 bytes, no buffer size of 0 (spec/30_encoding.md R96, R99, R104; log 10). -/
def Obligations.DecodedInstructionsAreWellFormed : Prop :=
  ∀ (x : Input) (i : Instr), decode x = .ok i → i.wf = true

/-- Words written out in spec/30_encoding.md R102 and spec/95_test_vectors.md decode to the transactions they spell. -/
def Obligations.SpecWordsDecode : Prop :=
  decode (.bus 0x08000#18 0x02#32) = .ok (.wrAccess .one 0#3 0#2 0x02#32) ∧
  decode (.bus 0x28018#18 0x40#32) = .ok (.wrSts .four 0#3 0#2 0x40#32) ∧
  decode (.bus 0x22024#18 0x00#32) = .ok (.rdDataFifo .four 2#3 0#2) ∧
  decode (.bus 0x0B01B#18 0x02#32) = .ok (.wrSts .one 3#3 3#2 0x02#32) ∧
  decode (.bus 0x0C01B#18 0x02#32) = .ok (.wrLocality4 .one 6#10 3#2 0x02#32) ∧
  decode (.bus 0x28008#18 0x8000008F#32) = .ok (.wrIntEnable .four 0#3 0#2 0x8000008F#32) ∧
  decode (.bus 0x20010#18 0x00#32) = .ok (.rdIntStatus .four 0#3 0#2) ∧
  decode (.bus 0x30000#18 0x00#32) = .ok (.refusedWidth false 0#3 0#10 0#2 0x00#32)

/-! ## The step and the dispatcher (spec/20_memory.md, spec/40_dispatch.md) -/

/-- A step takes the oldest undelivered event and runs the instruction it decodes to on the state without that event; an
event the decoder rejects is refused; with no event nothing changes (spec/20_memory.md R71, spec/00_scope.md R3; the queue
of events and the idle step are the model's choice, log 1; the refusal is log 10). -/
def Obligations.StepRunsTheDecodedEvent : Prop :=
  (∀ (s : State) (x : Input) (rest : List Input) (i : Instr), s.inputs = x :: rest → decode x = .ok i →
    step s = exec i { s with inputs := rest }) ∧
  (∀ (s : State) (x : Input) (rest : List Input) (e : DecodeError), s.inputs = x :: rest → decode x = .error e →
    step s = .refused .notAnEvent) ∧
  (∀ s : State, s.inputs = [] → step s = .next s)

/-- The device never refuses a transaction and never stops: every bus transaction, with every operand, in every state,
leads to a next state (spec/60_exceptions.md R331, spec/40_dispatch.md R129). Two of its cases are not those rules': that a
word of the refused width (spec/30_encoding.md R92) answers a next state with its fault recorded is log 15
(spec/60_exceptions.md R333, the spec's decision D23), and the next state of a read outside the region is log 6. -/
def Obligations.EveryTransactionAnswersANextState : Prop :=
  ∀ (i : Instr) (s : State), isEvent i = false → ∃ t, exec i s = .next t

/-- With a startup error every read inside the region returns 0 and every write changes nothing, unlisted offsets and the
FIFO included (spec/40_dispatch.md R122). -/
def Obligations.StartupErrorOverride : Prop :=
  ∀ (i : Instr) (s : State), s.beStartupError = true →
    (∀ n loc, readOf i = some (n, loc) → loc.toNat < 5 → exec i s = .next { s with reply := .device n 0#32 }) ∧
    (∀ loc, writeOf i = some loc → exec i s = .next { s with reply := .none })

/-- A transaction to pages 5 to 7 never reaches the device: a write changes nothing, a read is answered by the platform
with a value of the access width and advances only the model's counter of free values (spec/20_memory.md R62, the spec's
decision D5; the form of the platform's answer is the model's choice, log 6). -/
def Obligations.OutsideRegionLeavesDeviceUnchanged : Prop :=
  ∀ (i : Instr) (s : State),
    (∀ n loc, readOf i = some (n, loc) → 5 ≤ loc.toNat →
      ∃ value : Word, value.toNat < 2 ^ (8 * widthBytes n) ∧
        exec i s = .next { s with reply := .platform n value, freeCount := s.freeCount + 1 }) ∧
    (∀ loc, writeOf i = some loc → 5 ≤ loc.toNat → exec i s = .next { s with reply := .none })

/-- A write to locality 4 is dropped, whatever register of the page it names (spec/40_dispatch.md R123). -/
def Obligations.Locality4WritesAreDropped : Prop :=
  ∀ (i : Instr) (s : State), writeOf i = some 4#3 → exec i s = .next { s with reply := .none }

/-- A word with SZ = 11b records REFUSED_WIDTH and performs nothing else (spec/30_encoding.md R92, spec/60_exceptions.md R333;
the fault record is the spec's decision D23). -/
def Obligations.RefusedWidthRecordsItsFault : Prop :=
  ∀ (w : Bool) (loc : BitVec 3) (reg : BitVec 10) (lane : BitVec 2) (v : Word) (s : State),
    exec (.refusedWidth w loc reg lane v) s =
      .next { s with faults := { s.faults with refusedWidth := true }, reply := .none }

/-- An unlisted offset of the region reads as 0xFFFFFFFF shifted by the lane and masked to the width, 0 under a startup
error; a write to it is ignored. The words are those of a valid width and a page 0 to 4 whose REG the table of
spec/30_encoding.md R94 does not list (spec/40_dispatch.md R127, R128). -/
def Obligations.UnlistedOffsets : Prop :=
  (∀ (tw : BitVec 18) (n : Width) (v : Word), widthOf (twSz tw) = some n → (twLoc tw).toNat < 5 →
    isListedReg (twReg tw) = false →
    (tw &&& 0x08000#18 = 0x00000#18 → decodeBus tw v = .rdUnmapped n (twLoc tw) (twReg tw) (twLane tw)) ∧
    (tw &&& 0x08000#18 = 0x08000#18 → decodeBus tw v = if twLoc tw = 4#3 then .wrLocality4 n (twReg tw) (twLane tw) v
      else .wrUnmapped n (twLoc tw) (twReg tw) (twLane tw) v)) ∧
  ∀ (n : Width) (l : Locality) (reg : BitVec 10) (lane : BitVec 2) (v : Word) (s : State),
    exec (.rdUnmapped n (pageOf l) reg lane) s =
      .next { s with reply := .device n (if s.beStartupError then 0#32 else
        (0xFFFFFFFF#32 >>> (8 * lane.toNat)) &&& BitVec.ofNat 32 (2 ^ (8 * widthBytes n) - 1)) } ∧
    exec (.wrUnmapped n (pageOf l) reg lane v) s = .next { s with reply := .none }

/-- INT_VECTOR, INTF_CAPABILITY, DID_VID and RID ignore every write, whatever the width, page, lane and value; the words of
the four rows are given by their match and mask (spec/45_interrupt_regs.md R255, spec/46_id_regs.md R272, R278). -/
def Obligations.ReadOnlyRegistersIgnoreWrites : Prop :=
  (∀ (tw : BitVec 18) (v : Word) (n : Width), widthOf (twSz tw) = some n → twLoc tw ≠ 4#3 →
    (tw &&& 0x08FFC#18 = 0x0800C#18 → decodeBus tw v = .wrIntVector n (twLoc tw) (twLane tw) v) ∧
    (tw &&& 0x08FFC#18 = 0x08014#18 → decodeBus tw v = .wrIntfCapability n (twLoc tw) (twLane tw) v) ∧
    (tw &&& 0x08FFC#18 = 0x08F00#18 → decodeBus tw v = .wrDidVid n (twLoc tw) (twLane tw) v) ∧
    (tw &&& 0x08FFC#18 = 0x08F04#18 → decodeBus tw v = .wrRid n (twLoc tw) (twLane tw) v)) ∧
  ∀ (n : Width) (loc : BitVec 3) (lane : BitVec 2) (v : Word) (s : State),
    exec (.wrIntVector n loc lane v) s = .next { s with reply := .none } ∧
    exec (.wrIntfCapability n loc lane v) s = .next { s with reply := .none } ∧
    exec (.wrDidVid n loc lane v) s = .next { s with reply := .none } ∧
    exec (.wrRid n loc lane v) s = .next { s with reply := .none }

/-- The lane shifts and the width masks, both ways, and the preserve-mask is the complement of the lanes covered
(spec/30_encoding.md R97): the read value, the shifted write value and keep, by the formulas of the rule. -/
def Obligations.OperandAssemblyFollowsLanes : Prop :=
  ∀ (n : Width) (lane : BitVec 2) (v : Word),
    (laneRead v n lane).toNat = v.toNat / 2 ^ (8 * lane.toNat) % 2 ^ (8 * widthBytes n) ∧
    (laneWrite v n lane).toNat = v.toNat % 2 ^ (8 * widthBytes n) * 2 ^ (8 * lane.toNat) % 2 ^ 32 ∧
    (∀ k < 32, (laneKeep n lane).getLsbD k =
      !(decide (8 * lane.toNat ≤ k) && decide (k < 8 * lane.toNat + 8 * widthBytes n)))

/-! ## Register reads (spec/41_access.md, spec/43_sts.md, spec/45_interrupt_regs.md, spec/46_id_regs.md) -/

/-- INT_ENABLE, INT_STATUS and INTERFACE_ID read the locality's own store, active or not; INTF_CAPABILITY reads by version;
DID_VID, RID and INT_VECTOR read their fixed values (spec/45_interrupt_regs.md R250, R252, R254, spec/46_id_regs.md R270,
R273, R276, R277; the INT_VECTOR and UNSPEC values and part of INTF_CAPABILITY are the spec's decisions D8, D9, D32; the
place of INTF_CAPABILITY's interrupt mask is PRESUMED by the spec, log 16). -/
def Obligations.RegisterReads : Prop :=
  ∀ (n : Width) (l : Locality) (lane : BitVec 2) (s : State), s.beStartupError = false →
    exec (.rdIntEnable n (pageOf l) lane) s = .next { s with reply := .device n (laneRead (s.bank l).inte n lane) } ∧
    exec (.rdIntStatus n (pageOf l) lane) s = .next { s with reply := .device n (laneRead (s.bank l).ints n lane) } ∧
    exec (.rdInterfaceId n (pageOf l) lane) s =
      .next { s with reply := .device n (laneRead (s.bank l).ifaceId n lane) } ∧
    exec (.rdIntVector n (pageOf l) lane) s =
      .next { s with reply := .device n (laneRead (BitVec.ofNat 32 s.params.irqNum.toNat) n lane) } ∧
    exec (.rdDidVid n (pageOf l) lane) s = .next { s with reply := .device n (laneRead 0x00011014#32 n lane) } ∧
    exec (.rdRid n (pageOf l) lane) s = .next { s with reply := .device n (laneRead 0x00000001#32 n lane) } ∧
    (s.beTpmVersion = .v1_2 → exec (.rdIntfCapability n (pageOf l) lane) s =
      .next { s with reply := .device n (laneRead 0x20000697#32 n lane) }) ∧
    (s.beTpmVersion = .v2_0 → exec (.rdIntfCapability n (pageOf l) lane) s =
      .next { s with reply := .device n (laneRead 0x30000697#32 n lane) }) ∧
    (s.beTpmVersion = .unspec → exec (.rdIntfCapability n (pageOf l) lane) s =
      .next { s with reply := .device n 0#32 })

/-- ACCESS as any locality reads it: bits 1, 4 and 5 stored, SEIZE hidden, PENDING_REQUEST when another locality has
REQUEST_USE stored, bit 0 the complement of the established flag, bit 7 set, the rest 0; nothing else changes
(spec/41_access.md R140, R151). The invariant gives the stored bits that are always 0. -/
def Obligations.AccessReadView : Prop :=
  ∀ (n : Width) (l : Locality) (lane : BitVec 2) (s : State), DeviceInv s → s.beStartupError = false →
    ∃ r : Word, exec (.rdAccess n (pageOf l) lane) s = .next { s with reply := .device n (laneRead r n lane) } ∧
      (r.getLsbD 0 = !s.beEstablished) ∧
      (r.getLsbD 1 = (s.bank l).access.getLsbD 1) ∧
      (r.getLsbD 2 = true ↔ ∃ k, k ≠ l ∧ (s.bank k).access.getLsbD 1 = true) ∧
      (r.getLsbD 3 = false) ∧
      (r.getLsbD 4 = (s.bank l).access.getLsbD 4) ∧
      (r.getLsbD 5 = true ↔ s.activeLocty = some l) ∧
      (r.getLsbD 6 = false) ∧ (r.getLsbD 7 = true) ∧ (∀ k, 8 ≤ k → r.getLsbD k = false)

/-- STS reads 0 from a locality that is not active. From the active one it is the stored flags with the burst count above
bit 8: the response bytes left, modulo 2^32, while DATA_AVAILABLE is set, else the free capacity, cut to 0xFF in a 1-byte
read (spec/43_sts.md R200 to R202; the wrap is the spec's decision D35; that the size field is read from bytes 2 to 5
also when buffer_size is below 6 is log 11). -/
def Obligations.StsReadView : Prop :=
  ∀ (n : Width) (l : Locality) (lane : BitVec 2) (s : State), s.beStartupError = false →
    (s.activeLocty ≠ some l → exec (.rdSts n (pageOf l) lane) s = .next { s with reply := .device n 0#32 }) ∧
    (s.activeLocty = some l → (s.bank l).sts &&& 0x10#32 ≠ 0#32 →
      exec (.rdSts n (pageOf l) lane) s = .next { s with reply := .device n (laneRead
        (((BitVec.ofNat 32 (min (Memory.be32 s.buffer).toNat s.bufferSize.val) - BitVec.ofNat 32 s.rwOffset.toNat) <<< 8)
          ||| (s.bank l).sts) n lane) }) ∧
    (s.activeLocty = some l → (s.bank l).sts &&& 0x10#32 = 0#32 → s.rwOffset.toNat ≤ s.bufferSize.val →
      exec (.rdSts n (pageOf l) lane) s = .next { s with reply := .device n (laneRead
        ((BitVec.ofNat 32 (if n = .one then min (s.bufferSize.val - s.rwOffset.toNat) 0xFF
          else s.bufferSize.val - s.rwOffset.toNat) <<< 8) ||| (s.bank l).sts) n lane) })

/-- Every read but a FIFO read changes no state of the device, and a FIFO read changes none unless the reader is the active
locality in COMPLETION with DATA_AVAILABLE set (spec/20_memory.md R76). -/
def Obligations.ReadsWithoutSideEffects : Prop :=
  ∀ (i : Instr) (s t : State) (n : Width) (loc : BitVec 3), readOf i = some (n, loc) → exec i s = .next t →
    (isFifoRead i = false ∨ ∀ l, loc = pageOf l →
      ¬(s.activeLocty = some l ∧ (s.bank l).state = .completion ∧ (s.bank l).sts &&& 0x10#32 ≠ 0#32)) →
    t = { s with reply := t.reply, freeCount := t.freeCount }

/-! ## Arbitration (spec/41_access.md). The acting bits of an ACCESS write are 1, 3, 4 and 5 of the shifted value. -/

/-- REQUEST_USE when no locality is active: the writer becomes active now, loses a stored REQUEST_USE or SEIZE, and gets
LOCALITY_CHANGED (spec/41_access.md R146, R147, R148). -/
def Obligations.RequestFreeInterface : Prop :=
  ∀ (n : Width) (l : Locality) (lane : BitVec 2) (v : Word) (s : State), l ≠ 4 → s.beStartupError = false →
    s.activeLocty = none → (laneWrite v n lane).setWidth 8 &&& 0x3A#8 = 0x02#8 →
    exec (.wrAccess n (pageOf l) lane v) s = .next
      { raiseIrq (some l) 0x00000004#32
          { s.setAccess l (((s.bank l).access ||| 0x20#8) &&& 0xF5#8) with activeLocty := some l } with reply := .none }

/-- REQUEST_USE while a locality owns the interface: another locality's request is recorded, the owner's own does nothing
(spec/41_access.md R146; the owner's case is the spec's decision D21). -/
def Obligations.RequestOwnedInterface : Prop :=
  ∀ (n : Width) (l a : Locality) (lane : BitVec 2) (v : Word) (s : State), DeviceInv s → l ≠ 4 →
    s.beStartupError = false → s.activeLocty = some a → (laneWrite v n lane).setWidth 8 &&& 0x3A#8 = 0x02#8 →
    (a ≠ l → exec (.wrAccess n (pageOf l) lane v) s =
      .next { s.setAccess l ((s.bank l).access ||| 0x02#8) with reply := .none }) ∧
    (a = l → exec (.wrAccess n (pageOf l) lane v) s = .next { s with reply := .none })

/-- A release by the owner with no requester gives the interface to nobody at once: no hand-over procedure, no cancel, no
interrupt, whatever the owner's state (spec/41_access.md R143, R147, R148; spec/70_reset_and_hazards.md R363). -/
def Obligations.ReleaseToNobody : Prop :=
  ∀ (n : Width) (l : Locality) (lane : BitVec 2) (v : Word) (s : State), l ≠ 4 → s.beStartupError = false →
    s.activeLocty = some l → (∀ k, (s.bank k).access &&& 0x02#8 = 0#8) →
    (laneWrite v n lane).setWidth 8 &&& 0x3A#8 = 0x20#8 →
    exec (.wrAccess n (pageOf l) lane v) s =
      .next { s.setAccess l ((s.bank l).access &&& 0xDD#8) with activeLocty := none, reply := .none }

/-- A release by the owner with requesters hands the interface to the highest-numbered one: at once, with rw_offset
cleared and LOCALITY_CHANGED on it, when nothing is in EXECUTION; else the hand-over is left pending and the backend is
asked to cancel (spec/41_access.md R143, R148; spec/44_abort.md R230, R231). -/
def Obligations.ReleaseToHighestRequester : Prop :=
  ∀ (n : Width) (l nl : Locality) (lane : BitVec 2) (v : Word) (s : State), DeviceInv s → s.beStartupError = false →
    s.activeLocty = some l → (s.bank nl).access &&& 0x02#8 ≠ 0#8 → (∀ k, nl < k → (s.bank k).access &&& 0x02#8 = 0#8) →
    (laneWrite v n lane).setWidth 8 &&& 0x3A#8 = 0x20#8 →
    ((∀ k, (s.bank k).state ≠ .execution) → exec (.wrAccess n (pageOf l) lane v) s = .next
      { raiseIrq (some nl) 0x00000004#32
          { (s.setAccess l (if (s.bank nl).access &&& 0x08#8 ≠ 0#8 then ((s.bank l).access &&& 0xDF#8) ||| 0x10#8
              else (s.bank l).access &&& 0xDD#8)).setAccess nl (((s.bank nl).access ||| 0x20#8) &&& 0xF5#8) with
            activeLocty := some nl, nextLocty := none, abortingLocty := none, rwOffset := 0#16 } with
        reply := .none }) ∧
    ((∃ k, (s.bank k).state = .execution) → exec (.wrAccess n (pageOf l) lane v) s = .next
      { s with abortingLocty := some l, nextLocty := some nl, beCancels := s.beCancels + 1, reply := .none })

/-- ACTIVE_LOCALITY written by a locality that is not the owner withdraws its own request and nothing else
(spec/41_access.md R143). -/
def Obligations.WithdrawRequest : Prop :=
  ∀ (n : Width) (l : Locality) (lane : BitVec 2) (v : Word) (s : State), DeviceInv s → l ≠ 4 →
    s.beStartupError = false → s.activeLocty ≠ some l → (laneWrite v n lane).setWidth 8 &&& 0x3A#8 = 0x20#8 →
    exec (.wrAccess n (pageOf l) lane v) s =
      .next { s.setAccess l ((s.bank l).access &&& 0xFD#8) with reply := .none }

/-- SEIZE, with or without REQUEST_USE and ACTIVE_LOCALITY in the same write, by a locality above the active one (or with
none active) when neither it nor a higher one has a seize pending. With nothing in EXECUTION it takes the interface at
once, the old owner gets BEEN_SEIZED, the lower seizes are cancelled and LOCALITY_CHANGED is raised on the seizer; else its
SEIZE is stored, the hand-over left pending and the backend asked to cancel (spec/41_access.md R142, R145, R148;
spec/44_abort.md R230, R231; the own-seize condition is the spec's decision D12). -/
def Obligations.SeizeTakesInterface : Prop :=
  ∀ (n : Width) (l : Locality) (lane : BitVec 2) (v : Word) (s : State), DeviceInv s → l ≠ 4 →
    s.beStartupError = false → (∀ a, s.activeLocty = some a → a < l) → (s.bank l).access &&& 0x08#8 = 0#8 →
    (∀ k, l < k → (s.bank k).access &&& 0x08#8 = 0#8) → (laneWrite v n lane).setWidth 8 &&& 0x18#8 = 0x08#8 →
    ((∀ k, (s.bank k).state ≠ .execution) → exec (.wrAccess n (pageOf l) lane v) s = .next
      { raiseIrq (some l) 0x00000004#32
          { s.mapBanks (fun k b => { b with access :=
              (if k = l then (b.access ||| 0x20#8) &&& 0xF5#8
              else if s.activeLocty = some k then (b.access &&& 0xD7#8) ||| 0x10#8
              else if k < l then b.access &&& 0xF7#8 else b.access) }) with
            activeLocty := some l, nextLocty := none, abortingLocty := none, rwOffset := 0#16 } with
        reply := .none }) ∧
    ((∃ k, (s.bank k).state = .execution) → exec (.wrAccess n (pageOf l) lane v) s = .next
      { s.mapBanks (fun k b => { b with access :=
          if k = l then b.access ||| 0x08#8 else if k < l then b.access &&& 0xF7#8 else b.access }) with
        abortingLocty := s.activeLocty, nextLocty := some l, beCancels := s.beCancels + 1, reply := .none })

/-- SEIZE does nothing for the owner, for a locality below the owner, with a higher seize pending, or with the writer's own
seize pending (spec/41_access.md R145; the last is the spec's decision D12). -/
def Obligations.SeizeIgnored : Prop :=
  ∀ (n : Width) (l : Locality) (lane : BitVec 2) (v : Word) (s : State), DeviceInv s → l ≠ 4 →
    s.beStartupError = false → (laneWrite v n lane).setWidth 8 &&& 0x18#8 = 0x08#8 →
    ((∃ a, s.activeLocty = some a ∧ l ≤ a) ∨ (∃ k, l < k ∧ (s.bank k).access &&& 0x08#8 ≠ 0#8) ∨
      (s.bank l).access &&& 0x08#8 ≠ 0#8) →
    exec (.wrAccess n (pageOf l) lane v) s = .next { s with reply := .none }

/-- BEEN_SEIZED in an ACCESS write: any locality 0 to 3 clears its own flag, active or not, whatever else the write
carries, and no locality clears another's. Alone it does nothing else. With other bits the clearing stands between the
release and the seize: a release by the owner is the same write without the bit, followed by the clearing; every other
write is the clearing, followed by the same write without the bit (spec/41_access.md R144, and R141 to R143, R145, R146,
R150 for the order; the write without the bit is that of RequestFreeInterface to ReleaseAndRequest and AccessWriteFrame). -/
def Obligations.BeenSeizedClearedByItsOwner : Prop :=
  ∀ (n : Width) (l : Locality) (lane : BitVec 2) (v : Word) (s : State), l ≠ 4 → s.beStartupError = false →
    (laneWrite v n lane).setWidth 8 &&& 0x10#8 ≠ 0#8 →
    (∃ t, exec (.wrAccess n (pageOf l) lane v) s = .next t ∧ (t.bank l).access &&& 0x10#8 = 0#8 ∧
      ∀ k, k ≠ l → (s.bank k).access &&& 0x10#8 ≠ 0#8 → (t.bank k).access &&& 0x10#8 ≠ 0#8) ∧
    (DeviceInv s → (laneWrite v n lane).setWidth 8 &&& 0x3A#8 = 0x10#8 → exec (.wrAccess n (pageOf l) lane v) s =
      .next { s.setAccess l ((s.bank l).access &&& 0xEF#8) with reply := .none }) ∧
    (∀ v' : Word, (laneWrite v' n lane).setWidth 8 &&& 0x3A#8 = (laneWrite v n lane).setWidth 8 &&& 0x2A#8 →
      (¬(s.activeLocty = some l ∧ (laneWrite v n lane).setWidth 8 &&& 0x28#8 = 0x20#8) →
        exec (.wrAccess n (pageOf l) lane v) s =
          exec (.wrAccess n (pageOf l) lane v') (s.setAccess l ((s.bank l).access &&& 0xEF#8))) ∧
      (s.activeLocty = some l ∧ (laneWrite v n lane).setWidth 8 &&& 0x28#8 = 0x20#8 →
        ∃ t, exec (.wrAccess n (pageOf l) lane v') s = .next t ∧ exec (.wrAccess n (pageOf l) lane v) s =
          .next (t.setAccess l ((t.bank l).access &&& 0xEF#8))))

/-- ACTIVE_LOCALITY and REQUEST_USE in one write: the release (or the withdrawal) comes first, then the request. The owner
without requesters gives the interface up and gets nothing back; with requesters it hands over and its own request is
recorded, unless the hand-over is left pending; another locality's request ends recorded, or takes a free interface
(spec/41_access.md R143, R146, R147, R148; spec/60_exceptions.md R316; the owner's request is the spec's decision D21). -/
def Obligations.ReleaseAndRequest : Prop :=
  ∀ (n : Width) (l : Locality) (lane : BitVec 2) (v : Word) (s : State), DeviceInv s → l ≠ 4 →
    s.beStartupError = false → (laneWrite v n lane).setWidth 8 &&& 0x3A#8 = 0x22#8 →
    (s.activeLocty = some l → (∀ k, (s.bank k).access &&& 0x02#8 = 0#8) → exec (.wrAccess n (pageOf l) lane v) s =
      .next { s.setAccess l ((s.bank l).access &&& 0xDD#8) with activeLocty := none, reply := .none }) ∧
    (∀ nl, s.activeLocty = some l → (s.bank nl).access &&& 0x02#8 ≠ 0#8 →
      (∀ k, nl < k → (s.bank k).access &&& 0x02#8 = 0#8) →
      ((∀ k, (s.bank k).state ≠ .execution) → exec (.wrAccess n (pageOf l) lane v) s = .next
        { raiseIrq (some nl) 0x00000004#32
            { (s.setAccess l ((if (s.bank nl).access &&& 0x08#8 ≠ 0#8 then ((s.bank l).access &&& 0xDF#8) ||| 0x10#8
                else (s.bank l).access &&& 0xDD#8) ||| 0x02#8)).setAccess nl
                (((s.bank nl).access ||| 0x20#8) &&& 0xF5#8) with
              activeLocty := some nl, nextLocty := none, abortingLocty := none, rwOffset := 0#16 } with
          reply := .none }) ∧
      ((∃ k, (s.bank k).state = .execution) → exec (.wrAccess n (pageOf l) lane v) s = .next
        { s with abortingLocty := some l, nextLocty := some nl, beCancels := s.beCancels + 1, reply := .none })) ∧
    (∀ a, s.activeLocty = some a → a ≠ l → exec (.wrAccess n (pageOf l) lane v) s =
      .next { s.setAccess l ((s.bank l).access ||| 0x02#8) with reply := .none }) ∧
    (s.activeLocty = none → exec (.wrAccess n (pageOf l) lane v) s = .next
      { raiseIrq (some l) 0x00000004#32
          { s.setAccess l (((s.bank l).access ||| 0x20#8) &&& 0xF5#8) with activeLocty := some l } with reply := .none })

/-- What no ACCESS write touches, whatever it carries and whatever page it uses: every locality's protocol state, STS,
INTERFACE_ID and INT_ENABLE; INT_STATUS but for LOCALITY_CHANGED; the buffer, the descriptor, the backend's state and the
rest. A write that does not change the owner raises no interrupt, and a write with none of the bits 1, 3, 4 and 5 of
ACCESS, such as every write at lanes 1 to 3, changes nothing at all (spec/41_access.md R141, R147, R148, R151;
spec/10_state.md R28; spec/44_abort.md R234). -/
def Obligations.AccessWriteFrame : Prop :=
  ∀ (n : Width) (loc : BitVec 3) (lane : BitVec 2) (v : Word) (s : State), DeviceInv s →
    ∃ t, exec (.wrAccess n loc lane v) s = .next t ∧
      (∀ k, (t.bank k).state = (s.bank k).state ∧ (t.bank k).sts = (s.bank k).sts ∧
        (t.bank k).ifaceId = (s.bank k).ifaceId ∧ (t.bank k).inte = (s.bank k).inte ∧
        ((t.bank k).ints = (s.bank k).ints ∨ (t.bank k).ints = (s.bank k).ints ||| 0x00000004#32)) ∧
      (t.activeLocty = s.activeLocty → t.irqLine = s.irqLine ∧ ∀ k, (t.bank k).ints = (s.bank k).ints) ∧
      ((laneWrite v n lane).setWidth 8 &&& 0x3A#8 = 0#8 → t = { s with reply := .none }) ∧
      (lane ≠ 0#2 → t = { s with reply := .none }) ∧
      (∀ a, Memory.read t.buffer a = Memory.read s.buffer a) ∧ t.buffer = s.buffer ∧
      t.bufferSize = s.bufferSize ∧ t.beTpmVersion = s.beTpmVersion ∧ t.cmd = s.cmd ∧ t.beIn = s.beIn ∧
      t.beOutstanding = s.beOutstanding ∧ t.beEstablished = s.beEstablished ∧ t.beStartupError = s.beStartupError ∧
      t.params = s.params ∧ t.faults = s.faults ∧ t.inputs = s.inputs ∧ t.freeCount = s.freeCount

/-! ## The FIFO (spec/42_fifo.md). Both names of the port are covered: DATA_FIFO and every dword of DATA_XFIFO. -/

/-- A FIFO write changes nothing when the writer is not active (spec/42_fifo.md R171), when it is in IDLE, EXECUTION or
COMPLETION (R172), or in RECEPTION with EXPECT clear (R173). -/
def Obligations.FifoWriteIgnored : Prop :=
  ∀ (i : Instr) (n : Width) (l : Locality) (lane : BitVec 2) (v : Word) (s : State),
    (i = .wrDataFifo n (pageOf l) lane v ∨ ∃ d, i = .wrDataXfifo n (pageOf l) d lane v) →
    (s.activeLocty ≠ some l ∨ (s.bank l).state = .idle ∨ (s.bank l).state = .execution ∨
      (s.bank l).state = .completion ∨ ((s.bank l).state = .reception ∧ (s.bank l).sts &&& 0x08#32 = 0#32)) →
    exec i s = .next { s with reply := .none }

/-- A FIFO write of any width, through any page and in any state, is its min(n, 4 − lane) byte writes one after the other,
the value's lowest byte first. A 1-byte FIFO write of the active locality with capacity left, in RECEPTION with EXPECT and
VALID set or in READY: the byte is stored at rw_offset, which advances; the locality is in RECEPTION; EXPECT stays until
the cursor has passed byte 5 and reached the big-endian size field; a byte stored while a command is outstanding records
BUFFER_RACE and is stored all the same. Once EXPECT is clear the bytes that follow are those of FifoWriteIgnored, and with
no capacity left those of FifoOverflow (spec/42_fifo.md R170, R172, R173, R175, R177, R183; the status-set reading is the
spec's decision D1, the comparison D29 with log 18, the fault record D24). -/
def Obligations.FifoWriteStoresItsBytes : Prop :=
  (∀ (i : Instr) (n : Width) (loc : BitVec 3) (lane : BitVec 2) (v : Word) (s : State),
    (i = .wrDataFifo n loc lane v ∨ ∃ d, i = .wrDataXfifo n loc d lane v) →
    exec i s = execAll ((List.range (min (widthBytes n) (4 - lane.toNat))).map fun k =>
      .wrDataFifo .one loc 0#2 (v >>> (8 * k))) s) ∧
  ∀ (i : Instr) (l : Locality) (lane : BitVec 2) (v : Word) (s : State),
    (i = .wrDataFifo .one (pageOf l) lane v ∨ ∃ d, i = .wrDataXfifo .one (pageOf l) d lane v) →
    l ≠ 4 → s.beStartupError = false → s.activeLocty = some l → s.rwOffset.toNat < s.bufferSize.val →
    ((s.bank l).state = .ready ∨
      ((s.bank l).state = .reception ∧ (s.bank l).sts &&& 0xFFFFFFFB#32 &&& 0xF3FFFFFF#32 = 0x88#32)) →
    let m := Memory.write s.buffer s.rwOffset.toNat (v.setWidth 8)
    let r := s.rwOffset.toNat + 1
    exec i s = .next
      { (s.setLocState l .reception).setStsStore l (((s.bank l).sts &&& 0x0C000004#32) |||
          (if 5 < r ∧ (Memory.be32 m).toNat ≤ r then 0x80#32 else 0x88#32)) with
        buffer := m
        rwOffset := s.rwOffset + 1#16
        faults := if s.beOutstanding then { s.faults with bufferRace := true } else s.faults
        reply := .none }

/-- A FIFO write of any width that finds no capacity left for one of its bytes drops that byte and every later one, leaves
VALID alone and raises no interrupt: with the buffer full from the first byte on in RECEPTION with EXPECT set; and, from
READY (where the cursor may be stale) or from RECEPTION with EXPECT and VALID set, when the m bytes left of the capacity, m
below min(n, 4 − lane) and possibly 0, do not complete the packet: these m bytes are stored, lowest first, and the locality
is in RECEPTION (spec/42_fifo.md R172, R173, R174, R177; the spec's decisions D1, D3, D24, D29 with log 18). -/
def Obligations.FifoOverflow : Prop :=
  ∀ (i : Instr) (n : Width) (l : Locality) (lane : BitVec 2) (v : Word) (s : State),
    (i = .wrDataFifo n (pageOf l) lane v ∨ ∃ d, i = .wrDataXfifo n (pageOf l) d lane v) →
    l ≠ 4 → s.beStartupError = false → s.activeLocty = some l →
    ((s.bank l).state = .reception → (s.bank l).sts &&& 0x08#32 ≠ 0#32 → s.bufferSize.val ≤ s.rwOffset.toNat →
      exec i s = .next { s.setStsStore l (((s.bank l).sts &&& 0x0C000004#32) ||| 0x80#32) with reply := .none }) ∧
    (let m := s.bufferSize.val - s.rwOffset.toNat
      let stored := fun j : Nat => Memory.writeBytes s.buffer s.rwOffset.toNat
        ((List.range j).map fun k => (v >>> (8 * k)).setWidth 8)
      ((s.bank l).state = .ready ∨ ((s.bank l).state = .reception ∧ (s.bank l).sts &&& 0x88#32 = 0x88#32)) →
      m < min (widthBytes n) (4 - lane.toNat) →
      (∀ j, 1 ≤ j → j ≤ m → 5 < s.rwOffset.toNat + j →
        s.rwOffset.toNat + j < (Memory.be32 (stored j)).toNat) →
      exec i s = .next
        { (s.setLocState l .reception).setStsStore l (((s.bank l).sts &&& 0x0C000004#32) ||| 0x80#32) with
          buffer := stored m
          rwOffset := s.rwOffset + BitVec.ofNat 16 m
          faults := if s.beOutstanding = true ∧ m ≠ 0 then { s.faults with bufferRace := true } else s.faults
          reply := .none })

/-- A FIFO write of any width, through any page, changes nothing but the cursor, the bytes it stores at the old cursor
onward (at most min(n, 4 − lane), each the value's own byte, lowest first), the writer's state, STS and INT_STATUS, the
line and the race mark; every other byte and every other locality is unchanged. The race mark is set exactly when a byte
is stored while a command is outstanding. A writer that accepts bytes (active, no startup error, READY or RECEPTION with
EXPECT and VALID) ends in RECEPTION, without an interrupt, and unless EXPECT has cleared, leaving VALID alone, all of its
min(n, 4 − lane) bytes are stored and EXPECT and VALID are set (spec/42_fifo.md R170, R172, R173, R176, R177; the spec's
decisions D1, D24). -/
def Obligations.FifoWriteFrame : Prop :=
  ∀ (i : Instr) (n : Width) (loc : BitVec 3) (lane : BitVec 2) (v : Word) (s : State),
    (i = .wrDataFifo n loc lane v ∨ ∃ d, i = .wrDataXfifo n loc d lane v) → DeviceInv s →
    ∃ t, exec i s = .next t ∧
      s.rwOffset.toNat ≤ t.rwOffset.toNat ∧ t.rwOffset.toNat ≤ s.rwOffset.toNat + min (widthBytes n) (4 - lane.toNat) ∧
      (∀ a, (a < s.rwOffset.toNat ∨ t.rwOffset.toNat ≤ a) → Memory.read t.buffer a = Memory.read s.buffer a) ∧
      (∀ k, s.rwOffset.toNat + k < t.rwOffset.toNat →
        Memory.read t.buffer (s.rwOffset.toNat + k) = (v >>> (8 * k)).setWidth 8) ∧
      (∀ k, (t.bank k).access = (s.bank k).access ∧ (t.bank k).ifaceId = (s.bank k).ifaceId ∧
        (t.bank k).inte = (s.bank k).inte ∧ (loc ≠ pageOf k → t.bank k = s.bank k)) ∧
      t.activeLocty = s.activeLocty ∧ t.nextLocty = s.nextLocty ∧ t.abortingLocty = s.abortingLocty ∧
      t.bufferSize = s.bufferSize ∧ t.beTpmVersion = s.beTpmVersion ∧ t.cmd = s.cmd ∧ t.beIn = s.beIn ∧
      t.beCancels = s.beCancels ∧ t.beOutstanding = s.beOutstanding ∧ t.beEstablished = s.beEstablished ∧
      t.beStartupError = s.beStartupError ∧ t.params = s.params ∧ t.inputs = s.inputs ∧ t.freeCount = s.freeCount ∧
      t.faults.refusedWidth = s.faults.refusedWidth ∧ t.faults.backendBusy = s.faults.backendBusy ∧
      t.faults.bufferRace = (s.faults.bufferRace || (s.beOutstanding && decide (s.rwOffset ≠ t.rwOffset))) ∧
      (∀ l, loc = pageOf l → l ≠ 4 → s.beStartupError = false → s.activeLocty = some l →
        ((s.bank l).state = .ready ∨ ((s.bank l).state = .reception ∧ (s.bank l).sts &&& 0xF8#32 = 0x88#32)) →
        (t.bank l).state = .reception ∧ (t.bank l).ints = (s.bank l).ints ∧ t.irqLine = s.irqLine ∧
        ((t.bank l).sts = ((s.bank l).sts &&& 0x0C000004#32) ||| 0x80#32 ∨
          ((t.bank l).sts = ((s.bank l).sts &&& 0x0C000004#32) ||| 0x88#32 ∧
            t.rwOffset.toNat = s.rwOffset.toNat + min (widthBytes n) (4 - lane.toNat))))

/-- A whole command sent byte by byte: a command of 6 to buffer_size bytes whose size field is its own length, sent from
READY with rw_offset 0, ends in RECEPTION with the cursor at its length, EXPECT clear, VALID set, and its bytes in the
buffer in order (spec/42_fifo.md R183, derived there from R170 to R175). -/
def Obligations.WholeCommandIsReceived : Prop :=
  ∀ (l : Locality) (c : List Byte) (s : State), DeviceInv s → s.beStartupError = false → s.activeLocty = some l →
    (s.bank l).state = .ready → s.rwOffset = 0#16 → s.beOutstanding = false → 6 ≤ c.length →
    c.length ≤ s.bufferSize.val →
    (c.getD 2 0#8).toNat * 2 ^ 24 + (c.getD 3 0#8).toNat * 2 ^ 16 + (c.getD 4 0#8).toNat * 2 ^ 8 +
      (c.getD 5 0#8).toNat = c.length →
    ∃ t, execAll (sendInstrs l c) s = .next t ∧ t.rwOffset.toNat = c.length ∧ (t.bank l).state = .reception ∧
      (t.bank l).sts = ((s.bank l).sts &&& 0x0C000004#32) ||| 0x80#32 ∧ t.faults = s.faults ∧
      (∀ k, k < c.length → Memory.read t.buffer k = c.getD k 0#8) ∧
      (∀ a, c.length ≤ a → Memory.read t.buffer a = Memory.read s.buffer a)

/-- A FIFO read that is not served consumes nothing: from a locality that is not active it returns all-ones in the bytes
the access covers (spec/42_fifo.md R180, the spec's decision D6); from the active one outside COMPLETION with
DATA_AVAILABLE, 0xFF in each of the min(n, 4 − lane) bytes (R179, R182; decision D2). -/
def Obligations.FifoReadNotServed : Prop :=
  ∀ (i : Instr) (n : Width) (l : Locality) (lane : BitVec 2) (s : State),
    (i = .rdDataFifo n (pageOf l) lane ∨ ∃ d, i = .rdDataXfifo n (pageOf l) d lane) → s.beStartupError = false →
    (s.activeLocty ≠ some l → exec i s =
      .next { s with reply := .device n ((0xFFFFFFFF#32 >>> (8 * lane.toNat)) &&&
        BitVec.ofNat 32 (2 ^ (8 * widthBytes n) - 1)) }) ∧
    (s.activeLocty = some l → ((s.bank l).state ≠ .completion ∨ (s.bank l).sts &&& 0x10#32 = 0#32) → exec i s =
      .next { s with reply := .device n (BitVec.ofNat 32 (2 ^ (8 * min (widthBytes n) (4 - lane.toNat)) - 1)) })

/-- A FIFO read of any width by the active locality in COMPLETION with DATA_AVAILABLE takes min(n, 4 − lane) bytes: the
first in bits 7:0, the next in bits 15:8 and so on, each the buffer byte at the cursor while the cursor is below the
response length min(size field, buffer_size), then 0xFF; the bytes of the value past them are 0. While bytes of the
response are left the cursor advances by that number and nothing else changes; a read that reaches the end leaves the
cursor at the length, STS at VALID alone, and raises STS_VALID once. A stale cursor at or past the length takes one buffer
byte, or 0xFF without moving when it stands at the capacity, and ends the response (spec/42_fifo.md R178, R179, R181, R182;
spec/20_memory.md R64; the spec's decisions D1, D2, D36; the size field of a buffer below 6 bytes is log 11, a size field
of 65536 or more log 18 with D29). -/
def Obligations.FifoReadServesItsBytes : Prop :=
  ∀ (i : Instr) (n : Width) (l : Locality) (lane : BitVec 2) (s : State),
    (i = .rdDataFifo n (pageOf l) lane ∨ ∃ d, i = .rdDataXfifo n (pageOf l) d lane) → s.beStartupError = false →
    s.activeLocty = some l → (s.bank l).state = .completion → (s.bank l).sts &&& 0x10#32 ≠ 0#32 →
    let rw := s.rwOffset.toNat
    let len := min (Memory.be32 s.buffer).toNat s.bufferSize.val
    let n' := min (widthBytes n) (4 - lane.toNat)
    ∃ value : Word,
      (∀ j, j < 4 → ((value >>> (8 * j)).setWidth 8 : Byte) =
        if n' ≤ j then 0x00#8
        else if rw + j < len ∨ (j = 0 ∧ rw < s.bufferSize.val) then Memory.read s.buffer (rw + j)
        else 0xFF#8) ∧
      (rw + n' < len → exec i s =
        .next { s with rwOffset := BitVec.ofNat 16 (rw + n'), reply := .device n value }) ∧
      (len ≤ rw + n' → exec i s = .next
        { raiseIrq (some l) 0x00000002#32
            { s.setStsStore l (((s.bank l).sts &&& 0x0C000004#32) ||| 0x80#32) with
              rwOffset := BitVec.ofNat 16 (if rw < len then len else if rw < s.bufferSize.val then rw + 1 else rw) } with
          reply := .device n value })

/-- A FIFO read of any width, through any page, changes nothing but the cursor (which advances by at most min(n, 4 − lane)),
the reader's STS and INT_STATUS, the line, and the model's reply and counter; no byte of the buffer. STS is unchanged or
becomes VALID alone, INT_STATUS is unchanged or gains STS_VALID. Inside the region the read is its min(n, 4 − lane) 1-byte
reads one after the other: the k-th byte of the value is what the k-th of them returns, the bytes past them are 0, and the
state is the one they lead to (spec/42_fifo.md R178, R179, R182, spec/20_memory.md R64, R76; the status-set reading is the
spec's decision D1, the reply is log 7). -/
def Obligations.FifoReadFrame : Prop :=
  ∀ (i : Instr) (n : Width) (loc : BitVec 3) (lane : BitVec 2) (s : State),
    (i = .rdDataFifo n loc lane ∨ ∃ d, i = .rdDataXfifo n loc d lane) → DeviceInv s →
    ∃ t, exec i s = .next t ∧
      s.rwOffset.toNat ≤ t.rwOffset.toNat ∧ t.rwOffset.toNat ≤ s.rwOffset.toNat + min (widthBytes n) (4 - lane.toNat) ∧
      (∀ k, (t.bank k).state = (s.bank k).state ∧ (t.bank k).access = (s.bank k).access ∧
        (t.bank k).ifaceId = (s.bank k).ifaceId ∧ (t.bank k).inte = (s.bank k).inte ∧
        (loc ≠ pageOf k → t.bank k = s.bank k)) ∧
      (∀ k, (t.bank k).sts = (s.bank k).sts ∨ (t.bank k).sts = ((s.bank k).sts &&& 0x0C000004#32) ||| 0x80#32) ∧
      (∀ k, (t.bank k).ints = (s.bank k).ints ∨ (t.bank k).ints = (s.bank k).ints ||| 0x00000002#32) ∧
      t = { s with loc := t.loc, rwOffset := t.rwOffset, irqLine := t.irqLine, reply := t.reply,
                   freeCount := t.freeCount } ∧
      (loc.toNat < 5 → ∃ value : Word, t.reply = .device n value ∧
        (∀ k, k < 4 → min (widthBytes n) (4 - lane.toNat) ≤ k → ((value >>> (8 * k)).setWidth 8 : Byte) = 0x00#8) ∧
        (∀ k, k < min (widthBytes n) (4 - lane.toNat) → ∃ u,
          execAll (List.replicate (k + 1) (.rdDataFifo .one loc 0#2)) s = .next u ∧
          u.reply = .device .one (((value >>> (8 * k)).setWidth 8 : Byte).setWidth 32) ∧
          (k + 1 = min (widthBytes n) (4 - lane.toNat) → { u with reply := t.reply } = t)))

/-- A response is read byte by byte in order: from rw_offset 0 in COMPLETION with DATA_AVAILABLE, the k-th 1-byte read
returns buffer byte k for every k below the response length min(size field, buffer_size), and after that many reads
DATA_AVAILABLE is clear and VALID set (spec/42_fifo.md R179, R181; the spec's decisions D1, D2; the size field of a
buffer below 6 bytes is log 11, a size field of 65536 or more log 18 with the spec's decision D29; a length of 0 is in
FifoReadServesItsBytes). -/
def Obligations.ResponseIsReadInOrder : Prop :=
  ∀ (l : Locality) (s : State), DeviceInv s → s.beStartupError = false → s.activeLocty = some l →
    (s.bank l).state = .completion → (s.bank l).sts &&& 0x10#32 ≠ 0#32 → s.rwOffset = 0#16 →
    let len := min (Memory.be32 s.buffer).toNat s.bufferSize.val
    (∀ k, k < len → ∃ t u,
      execAll (List.replicate k (.rdDataFifo .one (pageOf l) 0#2)) s = .next t ∧ t.rwOffset.toNat = k ∧
      exec (.rdDataFifo .one (pageOf l) 0#2) t = .next u ∧
      u.reply = .device .one ((Memory.read s.buffer k).setWidth 32)) ∧
    (0 < len → ∃ t, execAll (List.replicate len (.rdDataFifo .one (pageOf l) 0#2)) s = .next t ∧
      t.rwOffset.toNat = len ∧ (t.bank l).sts = ((s.bank l).sts &&& 0x0C000004#32) ||| 0x80#32)

/-! ## STS actions (spec/43_sts.md). The premise on bits 24 and 25 leaves those two to StsWriteWithoutAction and
StsExtraActionsComeFirst. -/

/-- COMMAND_READY from IDLE, READY and COMPLETION: IDLE goes to READY with COMMAND_READY set and its interrupt; READY only
clears the cursor, without interrupt; COMPLETION clears the cursor and goes to READY with COMMAND_READY and its interrupt,
or, had COMMAND_READY been stored, with DATA_AVAILABLE cleared alone (spec/43_sts.md R206; the status-set reading is the
spec's decision D1). -/
def Obligations.CommandReadyMakesReady : Prop :=
  ∀ (n : Width) (l : Locality) (lane : BitVec 2) (v : Word) (s : State), l ≠ 4 → s.beStartupError = false →
    s.activeLocty = some l → (s.beTpmVersion ≠ .v2_0 ∨ laneWrite v n lane &&& 0x03000000#32 = 0#32) →
    laneWrite v n lane &&& 0x62#32 = 0x40#32 →
    ((s.bank l).state = .idle → exec (.wrSts n (pageOf l) lane v) s = .next
      { raiseIrq (some l) 0x00000080#32
          ((s.setStsStore l (((s.bank l).sts &&& 0x0C000004#32) ||| 0x40#32)).setLocState l .ready) with
        reply := .none }) ∧
    ((s.bank l).state = .ready → exec (.wrSts n (pageOf l) lane v) s =
      .next { s with rwOffset := 0#16, reply := .none }) ∧
    ((s.bank l).state = .completion → (s.bank l).sts &&& 0x40#32 = 0#32 → exec (.wrSts n (pageOf l) lane v) s = .next
      { raiseIrq (some l) 0x00000080#32
          { (s.setStsStore l (((s.bank l).sts &&& 0x0C000004#32) ||| 0x40#32)).setLocState l .ready with
            rwOffset := 0#16 } with
        reply := .none }) ∧
    ((s.bank l).state = .completion → (s.bank l).sts &&& 0x40#32 ≠ 0#32 → exec (.wrSts n (pageOf l) lane v) s = .next
      { (s.setStsStore l ((s.bank l).sts &&& 0xFFFFFFEF#32)).setLocState l .ready with
        rwOffset := 0#16, reply := .none })

/-- COMMAND_READY in RECEPTION and EXECUTION starts a self-abort: at once when nothing executes (READY, cursor 0,
COMMAND_READY set and raised), else left pending with a backend cancel and no other change (spec/43_sts.md R206,
spec/44_abort.md R230, R231; the status-set reading is the spec's decision D1). -/
def Obligations.CommandReadyAborts : Prop :=
  ∀ (n : Width) (l : Locality) (lane : BitVec 2) (v : Word) (s : State), DeviceInv s → s.beStartupError = false →
    s.activeLocty = some l → (s.beTpmVersion ≠ .v2_0 ∨ laneWrite v n lane &&& 0x03000000#32 = 0#32) →
    laneWrite v n lane &&& 0x62#32 = 0x40#32 →
    ((s.bank l).state = .reception → (∀ k, (s.bank k).state ≠ .execution) →
      exec (.wrSts n (pageOf l) lane v) s = .next
        { raiseIrq (some l) 0x00000080#32
            { (s.setStsStore l (((s.bank l).sts &&& 0x0C000004#32) ||| 0x40#32)).setLocState l .ready with
              rwOffset := 0#16, nextLocty := none, abortingLocty := none } with
          reply := .none }) ∧
    (((s.bank l).state = .reception ∨ (s.bank l).state = .execution) → (∃ k, (s.bank k).state = .execution) →
      exec (.wrSts n (pageOf l) lane v) s = .next
        { s with abortingLocty := some l, nextLocty := some l, beCancels := s.beCancels + 1, reply := .none })

/-- TPM_GO in RECEPTION with EXPECT clear submits the bytes received, as they stand in the buffer, and goes to EXECUTION
with STS and cursor kept, recording BACKEND_BUSY when a command is already outstanding; in every other case it does nothing
(spec/43_sts.md R207, spec/47_backend.md R292, R301; the snapshot is the spec's decision D17, the fault record D23). -/
def Obligations.TpmGoSubmits : Prop :=
  ∀ (n : Width) (l : Locality) (lane : BitVec 2) (v : Word) (s : State), l ≠ 4 → s.beStartupError = false →
    s.activeLocty = some l → (s.beTpmVersion ≠ .v2_0 ∨ laneWrite v n lane &&& 0x03000000#32 = 0#32) →
    laneWrite v n lane &&& 0x62#32 = 0x20#32 →
    ((s.bank l).state = .reception → (s.bank l).sts &&& 0x08#32 = 0#32 → exec (.wrSts n (pageOf l) lane v) s = .next
      { s.setLocState l .execution with
        cmd := { locty := l, inLen := s.rwOffset, outCap := s.bufferSize }
        beIn := (List.range s.rwOffset.toNat).map (Memory.read s.buffer)
        beOutstanding := true
        faults := if s.beOutstanding then { s.faults with backendBusy := true } else s.faults
        reply := .none }) ∧
    (((s.bank l).state ≠ .reception ∨ (s.bank l).sts &&& 0x08#32 ≠ 0#32) →
      exec (.wrSts n (pageOf l) lane v) s = .next { s with reply := .none })

/-- RESPONSE_RETRY in COMPLETION clears the cursor and sets VALID and DATA_AVAILABLE, with no interrupt; in every other
state it does nothing (spec/43_sts.md R208; the status-set reading is the spec's decision D1). -/
def Obligations.ResponseRetryRearms : Prop :=
  ∀ (n : Width) (l : Locality) (lane : BitVec 2) (v : Word) (s : State), l ≠ 4 → s.beStartupError = false →
    s.activeLocty = some l → (s.beTpmVersion ≠ .v2_0 ∨ laneWrite v n lane &&& 0x03000000#32 = 0#32) →
    laneWrite v n lane &&& 0x62#32 = 0x02#32 →
    ((s.bank l).state = .completion → exec (.wrSts n (pageOf l) lane v) s = .next
      { s.setStsStore l (((s.bank l).sts &&& 0x0C000004#32) ||| 0x90#32) with rwOffset := 0#16, reply := .none }) ∧
    ((s.bank l).state ≠ .completion → exec (.wrSts n (pageOf l) lane v) s = .next { s with reply := .none })

/-- An STS write with none, two or three action bits performs no action; on 2.0 bit 24 still asks the backend to cancel in
EXECUTION, and bit 25 still clears the established flag from locality 3; on 1.2 and UNSPEC both are ignored
(spec/43_sts.md R203, R204, R205; that no action is performed is the spec's decision D20, R209). -/
def Obligations.StsWriteWithoutAction : Prop :=
  ∀ (n : Width) (l : Locality) (lane : BitVec 2) (v : Word) (s : State), l ≠ 4 → s.beStartupError = false →
    s.activeLocty = some l → laneWrite v n lane &&& 0x62#32 ∉ [0x40#32, 0x20#32, 0x02#32] →
    exec (.wrSts n (pageOf l) lane v) s = .next
      { s with
        beCancels := if s.beTpmVersion = .v2_0 ∧ laneWrite v n lane &&& 0x01000000#32 ≠ 0#32 ∧
          (s.bank l).state = .execution then s.beCancels + 1 else s.beCancels
        beEstablished := if s.beTpmVersion = .v2_0 ∧ laneWrite v n lane &&& 0x02000000#32 ≠ 0#32 ∧ l = 3 then false
          else s.beEstablished
        reply := .none }

/-- Bits 24 and 25 act before the action of the same write: an STS write is the cancel and the establishment reset,
followed by the write without the two bits; off 2.0 it is the write without the two bits (spec/43_sts.md R203,
spec/60_exceptions.md R316 (4)). -/
def Obligations.StsExtraActionsComeFirst : Prop :=
  ∀ (n : Width) (l : Locality) (lane : BitVec 2) (v v' : Word) (s : State), l ≠ 4 → s.beStartupError = false →
    s.activeLocty = some l → laneWrite v' n lane = laneWrite v n lane &&& 0xFCFFFFFF#32 →
    exec (.wrSts n (pageOf l) lane v) s = exec (.wrSts n (pageOf l) lane v')
      { s with
        beCancels := if s.beTpmVersion = .v2_0 ∧ laneWrite v n lane &&& 0x01000000#32 ≠ 0#32 ∧
          (s.bank l).state = .execution then s.beCancels + 1 else s.beCancels
        beEstablished := if s.beTpmVersion = .v2_0 ∧ laneWrite v n lane &&& 0x02000000#32 ≠ 0#32 ∧ l = 3 then false
          else s.beEstablished }

/-- A locality that is not active can change nothing but through ACCESS and INTERFACE_ID: every other write of its page is
ignored (spec/60_exceptions.md R322; for INT_STATUS the spec's decision D7). -/
def Obligations.NonActiveWritesAreIgnored : Prop :=
  ∀ (i : Instr) (l : Locality) (s : State), writeOf i = some (pageOf l) → s.activeLocty ≠ some l →
    (∀ n lane v, i ≠ .wrAccess n (pageOf l) lane v) → (∀ n lane v, i ≠ .wrInterfaceId n (pageOf l) lane v) →
    exec i s = .next { s with reply := .none }

/-- Whatever a transaction through the page of l does, it leaves the protocol state, the status flags, INT_ENABLE
of every other locality alone: only ACCESS bookkeeping, LOCALITY_CHANGED and the common
INT_SEL_LOCK cross pages (spec/60_exceptions.md R321, R322; spec/44_abort.md R234). -/
def Obligations.PageKeepsOtherLocalities : Prop :=
  ∀ (i : Instr) (l k : Locality) (s t : State), DeviceInv s →
    (writeOf i = some (pageOf l) ∨ ∃ n, readOf i = some (n, pageOf l)) → k ≠ l → exec i s = .next t →
    (t.bank k).state = (s.bank k).state ∧ (t.bank k).sts = (s.bank k).sts ∧ (t.bank k).inte = (s.bank k).inte ∧
    ((t.bank k).ints = (s.bank k).ints ∨ (t.bank k).ints = (s.bank k).ints ||| 0x00000004#32) ∧
    ((t.bank k).ifaceId = (s.bank k).ifaceId ∨ (t.bank k).ifaceId = (s.bank k).ifaceId ||| 0x00080000#32)

/-! ## Interrupts and identification (spec/60_exceptions.md, spec/45_interrupt_regs.md, spec/46_id_regs.md) -/

/-- The interrupt primitive: with INT_ENABLED and a source of the mask enabled on a valid locality the line is asserted and
the whole mask is OR'd into INT_STATUS; else nothing happens (spec/60_exceptions.md R310). -/
def Obligations.RaiseIrqNeedsEnables : Prop :=
  ∀ (mask : Word) (s : State), raiseIrq none mask s = s ∧
    ∀ l : Locality,
      ((s.bank l).inte &&& 0x80000000#32 ≠ 0#32 ∧ (s.bank l).inte &&& mask ≠ 0#32 →
        raiseIrq (some l) mask s = { s.setInts l ((s.bank l).ints ||| mask) with irqLine := true }) ∧
      ((s.bank l).inte &&& 0x80000000#32 = 0#32 ∨ (s.bank l).inte &&& mask = 0#32 → raiseIrq (some l) mask s = s)

/-- INT_ENABLE written by the active locality: the bytes outside the written lanes keep their value, the written ones take
the writable bits 0x8000009F and clear the reserved ones; no interrupt, no change of the line or of INT_STATUS; from any
other locality nothing (spec/45_interrupt_regs.md R251). -/
def Obligations.IntEnableWriteMerges : Prop :=
  ∀ (n : Width) (l : Locality) (lane : BitVec 2) (v : Word) (s : State), l ≠ 4 → s.beStartupError = false →
    (s.activeLocty = some l → exec (.wrIntEnable n (pageOf l) lane v) s = .next
      { s.setInte l (((s.bank l).inte &&& laneKeep n lane) ||| (laneWrite v n lane &&& 0x8000009F#32)) with
        reply := .none }) ∧
    (s.activeLocty ≠ some l → exec (.wrIntEnable n (pageOf l) lane v) s = .next { s with reply := .none })

/-- INT_STATUS written by the active locality: the supported bits written as 1 are cleared, and the line is lowered exactly
when that takes the locality's INT_STATUS from non-zero to zero by a supported bit, whatever the other localities hold;
from any other locality nothing (spec/45_interrupt_regs.md R253, the spec's decision D7). -/
def Obligations.IntStatusWriteClears : Prop :=
  ∀ (n : Width) (l : Locality) (lane : BitVec 2) (v : Word) (s : State), l ≠ 4 → s.beStartupError = false →
    (s.activeLocty = some l → exec (.wrIntStatus n (pageOf l) lane v) s = .next
      { s.setInts l ((s.bank l).ints &&& ~~~(laneWrite v n lane &&& 0x87#32)) with
        irqLine := if laneWrite v n lane &&& 0x87#32 ≠ 0#32 ∧ (s.bank l).ints ≠ 0#32 ∧
          (s.bank l).ints &&& ~~~(laneWrite v n lane &&& 0x87#32) = 0#32 then false else s.irqLine
        reply := .none }) ∧
    (s.activeLocty ≠ some l → exec (.wrIntStatus n (pageOf l) lane v) s = .next { s with reply := .none })

/-- INTERFACE_ID written from any locality 0 to 3, active or not: bit 19 is OR'd into all five localities' registers; every
other bit is ignored (spec/46_id_regs.md R275; who may write is the spec's decision D26). -/
def Obligations.InterfaceIdLock : Prop :=
  ∀ (n : Width) (l : Locality) (lane : BitVec 2) (v : Word) (s : State), l ≠ 4 → s.beStartupError = false →
    (laneWrite v n lane &&& 0x00080000#32 ≠ 0#32 → exec (.wrInterfaceId n (pageOf l) lane v) s = .next
      { s.mapBanks (fun _ b => { b with ifaceId := b.ifaceId ||| 0x00080000#32 }) with reply := .none }) ∧
    (laneWrite v n lane &&& 0x00080000#32 = 0#32 → exec (.wrInterfaceId n (pageOf l) lane v) s =
      .next { s with reply := .none })

/-! ## The backend's completion (spec/47_backend.md) -/

/-- COMPLETE with no hand-over pending: the response is written from byte 0, the established flag takes the drawn value,
the command is no longer outstanding, SELFTEST_DONE is OR'd into all five localities when drawn, the submitter is in
COMPLETION with VALID and DATA_AVAILABLE and the cursor at 0, and DATA_AVAILABLE | STS_VALID is raised on it; the return
code has no effect (spec/47_backend.md R296, R298, R299; the spec's decisions D1, D14, D17, D18). -/
def Obligations.CompletionDelivers : Prop :=
  ∀ (resp : List Byte) (selftest : Bool) (ret : Int) (est : Bool) (s : State), s.beOutstanding = true →
    resp.length ≤ s.cmd.outCap.val → s.nextLocty = none →
    exec (.complete resp selftest ret est) s = .next
      { raiseIrq (some s.cmd.locty) 0x00000003#32
          { s.mapBanks (fun k b => { b with
              state := if k = s.cmd.locty then .completion else b.state
              sts := if k = s.cmd.locty then
                  ((b.sts ||| (if selftest then 0x04#32 else 0#32)) &&& 0x0C000004#32) ||| 0x90#32
                else b.sts ||| (if selftest then 0x04#32 else 0#32) }) with
            buffer := Memory.writeBytes s.buffer 0 resp
            beEstablished := est
            beOutstanding := false
            rwOffset := 0#16 } with
        reply := .none }

/-- COMPLETE with a hand-over pending runs it inside the event: the pending locality becomes the active one and nothing
stays pending; a self-abort ends in READY with COMMAND_READY alone; the submitter, when it is not the self-aborted one,
ends in COMPLETION with VALID and DATA_AVAILABLE though it may no longer be active; the response is in the buffer. The new
owner has ACTIVE_LOCALITY and neither REQUEST_USE nor SEIZE; another owner before it gets BEEN_SEIZED and keeps a request
when the new one's SEIZE was stored, else it loses its request. The interrupts, each where its enables are set:
COMMAND_READY on the self-aborted locality, LOCALITY_CHANGED on the new owner when the owner changes, DATA_AVAILABLE |
STS_VALID on the submitter whatever became of it; the line is asserted when one of them reaches it (spec/41_access.md R148;
spec/44_abort.md R231, R232, R234; spec/47_backend.md R296, R298; the spec's decisions D1, D14, D17, D18). -/
def Obligations.CompletionRunsPendingHandOver : Prop :=
  ∀ (resp : List Byte) (selftest : Bool) (ret : Int) (est : Bool) (s : State) (x : Locality), DeviceInv s →
    s.beOutstanding = true → resp.length ≤ s.cmd.outCap.val → s.nextLocty = some x →
    let c := s.cmd.locty
    let self := decide (s.abortingLocty = some x)
    let done : Word := if selftest then 0x04#32 else 0#32
    let raised := fun (k : Locality) (mask : Word) =>
      if (s.bank k).inte &&& 0x80000000#32 ≠ 0#32 ∧ (s.bank k).inte &&& mask ≠ 0#32 then mask else 0#32
    let onSelf := if self then raised x 0x80#32 else 0#32
    let onOwner := if s.activeLocty ≠ some x then raised x 0x04#32 else 0#32
    let onSubmitter := raised c 0x03#32
    ∃ t, exec (.complete resp selftest ret est) s = .next t ∧
      t.activeLocty = some x ∧ t.nextLocty = none ∧ t.abortingLocty = none ∧ t.rwOffset = 0#16 ∧
      t.beOutstanding = false ∧ t.beEstablished = est ∧ t.beCancels = s.beCancels ∧ t.faults = s.faults ∧
      (∀ k, k < resp.length → Memory.read t.buffer k = resp.getD k 0#8) ∧
      (∀ a, resp.length ≤ a → Memory.read t.buffer a = Memory.read s.buffer a) ∧
      (∀ k, (t.bank k).state =
        if self = true ∧ k = x then .ready else if k = c then .completion else (s.bank k).state) ∧
      (∀ k, (t.bank k).sts =
        if self = true ∧ k = x then (((s.bank k).sts ||| done) &&& 0x0C000004#32) ||| 0x40#32
        else if k = c then (((s.bank k).sts ||| done) &&& 0x0C000004#32) ||| 0x90#32
        else (s.bank k).sts ||| done) ∧
      (∀ k, (t.bank k).access =
        if k = x then ((s.bank k).access ||| 0x20#8) &&& 0xF5#8
        else if s.activeLocty = some k then
          (if (s.bank x).access &&& 0x08#8 ≠ 0#8 then ((s.bank k).access &&& 0xDF#8) ||| 0x10#8
            else (s.bank k).access &&& 0xDD#8)
        else (s.bank k).access) ∧
      (∀ k, (t.bank k).ints = (s.bank k).ints ||| (if k = x then onSelf ||| onOwner else 0#32)
        ||| (if k = c then onSubmitter else 0#32)) ∧
      t.irqLine = (s.irqLine || decide (onSelf ||| onOwner ||| onSubmitter ≠ 0#32)) ∧
      (∀ k, (t.bank k).ifaceId = (s.bank k).ifaceId ∧ (t.bank k).inte = (s.bank k).inte) ∧
      t.cmd = s.cmd ∧ t.beIn = s.beIn ∧ t.bufferSize = s.bufferSize ∧ t.beTpmVersion = s.beTpmVersion ∧
      t.beStartupError = s.beStartupError ∧ t.params = s.params ∧ t.inputs = s.inputs ∧ t.freeCount = s.freeCount ∧
      t.reply = .none

/-- COMPLETE is not enabled while no command is outstanding, and a response longer than out_cap is no completion: both stop
by name (spec/47_backend.md R296, R302, the spec's decision D14; the two names are the model's choice, logs 8 and 9). -/
def Obligations.CompletionOutsideItsContract : Prop :=
  ∀ (resp : List Byte) (selftest : Bool) (ret : Int) (est : Bool) (s : State),
    (s.beOutstanding = false → exec (.complete resp selftest ret est) s = .refused .completionNotEnabled) ∧
    (s.beOutstanding = true → s.cmd.outCap.val < resp.length →
      exec (.complete resp selftest ret est) s = .fault .responseOverCapacity)

/-! ## Reset (spec/70_reset_and_hazards.md) -/

/-- RESET in any state leaves every register at its reset value, no owner, nothing pending, the cursor at 0, the backend's
answers taken, an outstanding command discarded; the line goes by IRQ_LINE_AT_RESET; the buffer, the descriptor, the
snapshot, the cancel count, the fault record and the configuration stay (spec/70_reset_and_hazards.md R350, R352, R353,
R354; the spec's decisions D9, D10, D13, D15, D18, D19, D27; the INTERFACE_ID values of 1.2 and 2.0 are PRESUMED by the
spec, log 16). -/
def Obligations.ResetSetsEveryRegister : Prop :=
  ∀ (ver : TpmVersion) (raw : Nat) (err est : Bool) (s : State), ∃ t, exec (.reset ver raw err est) s = .next t ∧
    (∀ k, t.bank k = {
      state := .idle, access := 0x80#8, inte := 0x00000008#32, ints := 0#32,
      sts := (match ver with | .unspec => 0#32 | .v1_2 => 0#32 | .v2_0 => 0x04000000#32),
      ifaceId := (match ver with | .unspec => 0#32 | .v1_2 => 0xFFFFFFFF#32 | .v2_0 => 0x00002100#32) }) ∧
    t.activeLocty = none ∧ t.nextLocty = none ∧ t.abortingLocty = none ∧ t.rwOffset = 0#16 ∧ t.beTpmVersion = ver ∧
    t.bufferSize.val = min raw 4096 ∧ t.beStartupError = err ∧ t.beEstablished = est ∧ t.beOutstanding = false ∧
    (s.params.irqLineAtReset = .deasserted → t.irqLine = false) ∧
    (s.params.irqLineAtReset = .unchanged → t.irqLine = s.irqLine) ∧
    t.buffer = s.buffer ∧ t.cmd = s.cmd ∧ t.beIn = s.beIn ∧ t.beCancels = s.beCancels ∧ t.faults = s.faults ∧
    t.params = s.params ∧ t.inputs = s.inputs ∧ t.freeCount = s.freeCount

/-- The state at power-on is one a reset with the same answers leaves unchanged, with the line low, no cancel counted and no
fault recorded (spec/70_reset_and_hazards.md R355, the spec's decision D31; what State.powerOn names beside, the descriptor
and the snapshot, is log 4). -/
def Obligations.PowerOnIsAResetState : Prop :=
  ∀ p : PowerOn, exec (.reset p.ver p.raw p.err p.est) (State.powerOn p) = .next (State.powerOn p) ∧
    (State.powerOn p).irqLine = false ∧ (State.powerOn p).buffer = p.bufferInit ∧ (State.powerOn p).beCancels = 0 ∧
    (State.powerOn p).faults = FaultSet.empty

/-! ## Invariants and whole-machine rules -/

/-- Every step keeps the invariant of the device, from every state that has it (spec/10_state.md R27, R29, R31 to R33, R35,
R36, R38, R46 and the rules they are derived from; the INTERFACE_ID values in it are log 16). -/
def Obligations.StepKeepsDeviceInv : Prop :=
  ∀ s t : State, DeviceInv s → step s = .next t → DeviceInv t

/-- Every power-on state with a canonical BUFFER_INIT and a backend buffer size of at least 1 has the device's invariant,
every power-on state has the backend's, and State.reset has both (spec/70_reset_and_hazards.md R355, the spec's decision
D31; State.reset's BUFFER_INIT is log 3). -/
def Obligations.PowerOnHasTheInvariants : Prop :=
  (∀ p : PowerOn, Memory.wf p.bufferInit = true → 1 ≤ p.raw → DeviceInv (State.powerOn p)) ∧
  (∀ p : PowerOn, BackendInv (State.powerOn p)) ∧ DeviceInv State.reset ∧ BackendInv State.reset

/-- While no fault has been recorded, exactly the submitting locality of the outstanding command is in EXECUTION and a
pending hand-over waits for it: so every deferred hand-over has a completion coming (spec/10_state.md R46 (9), R47;
spec/44_abort.md R230). -/
def Obligations.StepKeepsBackendInv : Prop :=
  ∀ s t : State, DeviceInv s → (s.faults = FaultSet.empty → BackendInv s) → step s = .next t →
    (t.faults = FaultSet.empty → BackendInv t)

/-- SELFTEST_DONE: a completion that draws it sets it in all five localities, one that does not leaves it as it was in
every locality, and nothing but a reset clears it (spec/47_backend.md R298). -/
def Obligations.SelftestDoneIsSticky : Prop :=
  (∀ (resp : List Byte) (selftest : Bool) (ret : Int) (est : Bool) (s t : State) (k : Locality),
    exec (.complete resp selftest ret est) s = .next t →
    (t.bank k).sts &&& 0x04#32 = (if selftest then 0x04#32 else (s.bank k).sts &&& 0x04#32)) ∧
  (∀ (i : Instr) (s t : State) (k : Locality), exec i s = .next t → isEvent i = false →
    (t.bank k).sts &&& 0x04#32 = (s.bank k).sts &&& 0x04#32)

/-- The state machine's moves: a guest transaction moves a locality only along the guest rows of the transition table, and
no event but a reset brings one to IDLE (spec/10_state.md R25, R26). -/
def Obligations.MovesFollowTheTable : Prop :=
  (∀ (i : Instr) (s t : State) (k : Locality), isEvent i = false → exec i s = .next t →
    guestMove (s.bank k).state (t.bank k).state = true) ∧
  (∀ (i : Instr) (s t : State) (k : Locality), (∀ ver raw err est, i ≠ .reset ver raw err est) →
    exec i s = .next t → (t.bank k).state = .idle → (s.bank k).state = .idle)

/-- What only a reset changes, what no instruction changes and what only grows: the version, the buffer size and the
startup error; the configuration and the undelivered events; the fault record and the cancel count (spec/10_state.md R37,
R38, R42; spec/47_backend.md R295). -/
def Obligations.FixedUntilReset : Prop :=
  ∀ (i : Instr) (s t : State), exec i s = .next t →
    ((∀ ver raw err est, i ≠ .reset ver raw err est) → t.beTpmVersion = s.beTpmVersion ∧
      t.bufferSize = s.bufferSize ∧ t.beStartupError = s.beStartupError) ∧
    t.params = s.params ∧ t.inputs = s.inputs ∧ s.beCancels ≤ t.beCancels ∧
    (s.faults.refusedWidth = true → t.faults.refusedWidth = true) ∧
    (s.faults.backendBusy = true → t.faults.backendBusy = true) ∧
    (s.faults.bufferRace = true → t.faults.bufferRace = true)
end

