-- ==== Sys2Proof/Laws/Encoding.lean ====
section
/-! SUPPORT. The transaction word and its fields (spec/30_encoding.md R91): the bits of an assembled word, the fields of an
assembled word, a word assembled from its own fields, and masking. -/

namespace Sys2Proof.Laws

/-- The bits of an assembled transaction word. -/
theorem twOf_getLsbD (a : BitVec 2) (b : BitVec 1) (c : BitVec 3) (d : BitVec 10) (e : BitVec 2) (i : Nat) :
    (twOf a b c d e).getLsbD i = if i < 2 then e.getLsbD i else if i < 12 then d.getLsbD (i - 2)
      else if i < 15 then c.getLsbD (i - 12) else if i < 16 then b.getLsbD (i - 15) else a.getLsbD (i - 16) := by
  unfold twOf
  erw [BitVec.getLsbD_append, BitVec.getLsbD_append, BitVec.getLsbD_append, BitVec.getLsbD_append]
  simp only [Nat.sub_sub]
  split_ifs <;> first | rfl | omega

/-- Masking an assembled word masks its fields. -/
theorem twOf_and (a a' : BitVec 2) (b b' : BitVec 1) (c c' : BitVec 3) (d d' : BitVec 10) (e e' : BitVec 2) :
    twOf a b c d e &&& twOf a' b' c' d' e' = twOf (a &&& a') (b &&& b') (c &&& c') (d &&& d') (e &&& e') := by
  refine BitVec.eq_of_getLsbD_eq fun i _ => ?_
  simp only [BitVec.getLsbD_and, twOf_getLsbD]
  split_ifs <;> rfl

@[simp] theorem twSz_twOf (a : BitVec 2) (b : BitVec 1) (c : BitVec 3) (d : BitVec 10) (e : BitVec 2) :
    twSz (twOf a b c d e) = a := by
  refine BitVec.eq_of_getLsbD_eq fun i hi => ?_
  rw [twSz, BitVec.getLsbD_extractLsb', twOf_getLsbD]
  simp [hi, show ¬ 16 + i ≤ 1 by omega, show ¬ 16 + i < 12 by omega, show ¬ 16 + i < 15 by omega]

@[simp] theorem twW_twOf (a : BitVec 2) (b : BitVec 1) (c : BitVec 3) (d : BitVec 10) (e : BitVec 2) :
    twW (twOf a b c d e) = b := by
  refine BitVec.eq_of_getLsbD_eq fun i hi => ?_
  rw [twW, BitVec.getLsbD_extractLsb', twOf_getLsbD]
  simp [hi, show ¬ 15 + i < 2 by omega, show ¬ 15 + i < 12 by omega, show 15 + i < 16 by omega]

@[simp] theorem twLoc_twOf (a : BitVec 2) (b : BitVec 1) (c : BitVec 3) (d : BitVec 10) (e : BitVec 2) :
    twLoc (twOf a b c d e) = c := by
  refine BitVec.eq_of_getLsbD_eq fun i hi => ?_
  rw [twLoc, BitVec.getLsbD_extractLsb', twOf_getLsbD]
  simp [hi, show ¬ 12 + i < 2 by omega, show 12 + i < 15 by omega]

@[simp] theorem twReg_twOf (a : BitVec 2) (b : BitVec 1) (c : BitVec 3) (d : BitVec 10) (e : BitVec 2) :
    twReg (twOf a b c d e) = d := by
  refine BitVec.eq_of_getLsbD_eq fun i hi => ?_
  rw [twReg, BitVec.getLsbD_extractLsb', twOf_getLsbD]
  simp [hi, show ¬ 2 + i < 2 by omega, show 2 + i < 12 by omega]

@[simp] theorem twLane_twOf (a : BitVec 2) (b : BitVec 1) (c : BitVec 3) (d : BitVec 10) (e : BitVec 2) :
    twLane (twOf a b c d e) = e := by
  refine BitVec.eq_of_getLsbD_eq fun i hi => ?_
  rw [twLane, BitVec.getLsbD_extractLsb', twOf_getLsbD]
  simp [hi]

/-- A word is assembled from its own fields. -/
theorem twOf_fields (tw : BitVec 18) : twOf (twSz tw) (twW tw) (twLoc tw) (twReg tw) (twLane tw) = tw := by
  refine BitVec.eq_of_getLsbD_eq fun i hi => ?_
  rw [twOf_getLsbD]
  simp only [twSz, twW, twLoc, twReg, twLane, BitVec.getLsbD_extractLsb']
  split_ifs
  · simp [*]
  · simp [show i - 2 < 10 by omega, show 2 + (i - 2) = i by omega]
  · simp [show i - 12 < 3 by omega, show 12 + (i - 12) = i by omega]
  · simp [show i - 15 < 1 by omega, show 15 + (i - 15) = i by omega]
  · simp [show i - 16 < 2 by omega, show 16 + (i - 16) = i by omega]

end Sys2Proof.Laws
end

