-- ==== Sys2Proof/Laws/State.lean ====
section
/-! SUPPORT. The small lemmas of the state: reading a locality record after an update, and the fields each update keeps.
A conjunction tagged simp gives simp each of its equations. -/

namespace Sys2Proof.Machine

/-- A record of the state's vector, in the accessor's spelling. -/
@[simp] theorem State.loc_getElem (s : State) (k : Nat) (h : k < 5) : s.loc[k]'h = s.bank ⟨k, h⟩ := rfl

/-- The accessor of an explicitly built state. -/
@[simp] theorem State.bank_mk (loc : Vector Bank 5) (a1 a2 a3 : Option Locality) (a4 : BitVec 16) (a5 : TpmVersion)
    (a6 : Memory) (a7 : Fin 4097) (a8 : Cmd) (a9 a10 a11 : Bool) (a12 : List Byte) (a13 : Nat) (a14 : Bool)
    (a15 : Params) (a16 : FaultSet) (a17 : Reply) (a18 : List Input) (a19 : Nat) (k : Locality) :
    (State.mk loc a1 a2 a3 a4 a5 a6 a7 a8 a9 a10 a11 a12 a13 a14 a15 a16 a17 a18 a19).bank k = loc[k.val] := rfl

@[simp] theorem State.bank_setBank (s : State) (l : Locality) (b : Bank) (k : Locality) :
    (s.setBank l b).bank k = if k = l then b else s.bank k := by
  simp only [State.bank, State.setBank, Fin.getElem_fin, Vector.getElem_set, Fin.ext_iff, eq_comm]

@[simp] theorem State.bank_mapBanks (s : State) (f : Locality → Bank → Bank) (k : Locality) :
    (s.mapBanks f).bank k = f k (s.bank k) := by
  fin_cases k <;> rfl

@[simp] theorem Bank.replicate_get (b : Bank) (k : Locality) : (Vector.replicate 5 b)[k.val] = b := by
  simp

/-- Two states agree when all their fields do; the records may be compared one by one. -/
theorem State.loc_ext {s t : State} (h : ∀ k, s.bank k = t.bank k) : s.loc = t.loc := by
  ext i hi
  all_goals simp only [State.loc_getElem, h]

@[simp] theorem State.setBank_frame (s : State) (l : Locality) (b : Bank) :
    (s.setBank l b).activeLocty = s.activeLocty ∧ (s.setBank l b).nextLocty = s.nextLocty ∧
    (s.setBank l b).abortingLocty = s.abortingLocty ∧ (s.setBank l b).rwOffset = s.rwOffset ∧
    (s.setBank l b).beTpmVersion = s.beTpmVersion ∧ (s.setBank l b).buffer = s.buffer ∧
    (s.setBank l b).bufferSize = s.bufferSize ∧ (s.setBank l b).cmd = s.cmd ∧
    (s.setBank l b).beOutstanding = s.beOutstanding ∧ (s.setBank l b).beEstablished = s.beEstablished ∧
    (s.setBank l b).beStartupError = s.beStartupError ∧ (s.setBank l b).beIn = s.beIn ∧
    (s.setBank l b).beCancels = s.beCancels ∧ (s.setBank l b).irqLine = s.irqLine ∧
    (s.setBank l b).params = s.params ∧ (s.setBank l b).faults = s.faults ∧ (s.setBank l b).reply = s.reply ∧
    (s.setBank l b).inputs = s.inputs ∧ (s.setBank l b).freeCount = s.freeCount := by
  refine ⟨rfl, rfl, rfl, rfl, rfl, rfl, rfl, rfl, rfl, rfl, rfl, rfl, rfl, rfl, rfl, rfl, rfl, rfl, rfl⟩

@[simp] theorem State.mapBanks_frame (s : State) (f : Locality → Bank → Bank) :
    (s.mapBanks f).activeLocty = s.activeLocty ∧ (s.mapBanks f).nextLocty = s.nextLocty ∧
    (s.mapBanks f).abortingLocty = s.abortingLocty ∧ (s.mapBanks f).rwOffset = s.rwOffset ∧
    (s.mapBanks f).beTpmVersion = s.beTpmVersion ∧ (s.mapBanks f).buffer = s.buffer ∧
    (s.mapBanks f).bufferSize = s.bufferSize ∧ (s.mapBanks f).cmd = s.cmd ∧
    (s.mapBanks f).beOutstanding = s.beOutstanding ∧ (s.mapBanks f).beEstablished = s.beEstablished ∧
    (s.mapBanks f).beStartupError = s.beStartupError ∧ (s.mapBanks f).beIn = s.beIn ∧
    (s.mapBanks f).beCancels = s.beCancels ∧ (s.mapBanks f).irqLine = s.irqLine ∧ (s.mapBanks f).params = s.params ∧
    (s.mapBanks f).faults = s.faults ∧ (s.mapBanks f).reply = s.reply ∧ (s.mapBanks f).inputs = s.inputs ∧
    (s.mapBanks f).freeCount = s.freeCount := by
  refine ⟨rfl, rfl, rfl, rfl, rfl, rfl, rfl, rfl, rfl, rfl, rfl, rfl, rfl, rfl, rfl, rfl, rfl, rfl, rfl⟩

@[simp] theorem State.setLocState_frame (s : State) (l : Locality) (x : LocState) :
    (s.setLocState l x).activeLocty = s.activeLocty ∧ (s.setLocState l x).nextLocty = s.nextLocty ∧
    (s.setLocState l x).abortingLocty = s.abortingLocty ∧ (s.setLocState l x).rwOffset = s.rwOffset ∧
    (s.setLocState l x).beTpmVersion = s.beTpmVersion ∧ (s.setLocState l x).buffer = s.buffer ∧
    (s.setLocState l x).bufferSize = s.bufferSize ∧ (s.setLocState l x).cmd = s.cmd ∧
    (s.setLocState l x).beOutstanding = s.beOutstanding ∧ (s.setLocState l x).beEstablished = s.beEstablished ∧
    (s.setLocState l x).beStartupError = s.beStartupError ∧ (s.setLocState l x).beIn = s.beIn ∧
    (s.setLocState l x).beCancels = s.beCancels ∧ (s.setLocState l x).irqLine = s.irqLine ∧
    (s.setLocState l x).params = s.params ∧ (s.setLocState l x).faults = s.faults ∧
    (s.setLocState l x).reply = s.reply ∧ (s.setLocState l x).inputs = s.inputs ∧
    (s.setLocState l x).freeCount = s.freeCount := by
  refine ⟨rfl, rfl, rfl, rfl, rfl, rfl, rfl, rfl, rfl, rfl, rfl, rfl, rfl, rfl, rfl, rfl, rfl, rfl, rfl⟩

theorem State.bank_setLocState (s : State) (l : Locality) (x : LocState) (k : Locality) :
    (s.setLocState l x).bank k = if k = l then { s.bank l with state := x } else s.bank k := by
  simp only [State.setLocState, State.bank_setBank]

@[simp] theorem State.setLocState_fields (s : State) (l : Locality) (x : LocState) (k : Locality) :
    ((s.setLocState l x).bank k).state = (if k = l then x else (s.bank k).state) ∧
    ((s.setLocState l x).bank k).access = (s.bank k).access ∧ ((s.setLocState l x).bank k).sts = (s.bank k).sts ∧
    ((s.setLocState l x).bank k).ifaceId = (s.bank k).ifaceId ∧ ((s.setLocState l x).bank k).inte = (s.bank k).inte ∧
    ((s.setLocState l x).bank k).ints = (s.bank k).ints := by
  rw [State.bank_setLocState]
  split
  · subst k; simp
  · simp

@[simp] theorem State.setAccess_frame (s : State) (l : Locality) (x : BitVec 8) :
    (s.setAccess l x).activeLocty = s.activeLocty ∧ (s.setAccess l x).nextLocty = s.nextLocty ∧
    (s.setAccess l x).abortingLocty = s.abortingLocty ∧ (s.setAccess l x).rwOffset = s.rwOffset ∧
    (s.setAccess l x).beTpmVersion = s.beTpmVersion ∧ (s.setAccess l x).buffer = s.buffer ∧
    (s.setAccess l x).bufferSize = s.bufferSize ∧ (s.setAccess l x).cmd = s.cmd ∧
    (s.setAccess l x).beOutstanding = s.beOutstanding ∧ (s.setAccess l x).beEstablished = s.beEstablished ∧
    (s.setAccess l x).beStartupError = s.beStartupError ∧ (s.setAccess l x).beIn = s.beIn ∧
    (s.setAccess l x).beCancels = s.beCancels ∧ (s.setAccess l x).irqLine = s.irqLine ∧
    (s.setAccess l x).params = s.params ∧ (s.setAccess l x).faults = s.faults ∧ (s.setAccess l x).reply = s.reply ∧
    (s.setAccess l x).inputs = s.inputs ∧ (s.setAccess l x).freeCount = s.freeCount := by
  refine ⟨rfl, rfl, rfl, rfl, rfl, rfl, rfl, rfl, rfl, rfl, rfl, rfl, rfl, rfl, rfl, rfl, rfl, rfl, rfl⟩

theorem State.bank_setAccess (s : State) (l : Locality) (x : BitVec 8) (k : Locality) :
    (s.setAccess l x).bank k = if k = l then { s.bank l with access := x } else s.bank k := by
  simp only [State.setAccess, State.bank_setBank]

@[simp] theorem State.setAccess_fields (s : State) (l : Locality) (x : BitVec 8) (k : Locality) :
    ((s.setAccess l x).bank k).state = (s.bank k).state ∧
    ((s.setAccess l x).bank k).access = (if k = l then x else (s.bank k).access) ∧
    ((s.setAccess l x).bank k).sts = (s.bank k).sts ∧ ((s.setAccess l x).bank k).ifaceId = (s.bank k).ifaceId ∧
    ((s.setAccess l x).bank k).inte = (s.bank k).inte ∧ ((s.setAccess l x).bank k).ints = (s.bank k).ints := by
  rw [State.bank_setAccess]
  split
  · subst k; simp
  · simp

@[simp] theorem State.setStsStore_frame (s : State) (l : Locality) (x : Word) :
    (s.setStsStore l x).activeLocty = s.activeLocty ∧ (s.setStsStore l x).nextLocty = s.nextLocty ∧
    (s.setStsStore l x).abortingLocty = s.abortingLocty ∧ (s.setStsStore l x).rwOffset = s.rwOffset ∧
    (s.setStsStore l x).beTpmVersion = s.beTpmVersion ∧ (s.setStsStore l x).buffer = s.buffer ∧
    (s.setStsStore l x).bufferSize = s.bufferSize ∧ (s.setStsStore l x).cmd = s.cmd ∧
    (s.setStsStore l x).beOutstanding = s.beOutstanding ∧ (s.setStsStore l x).beEstablished = s.beEstablished ∧
    (s.setStsStore l x).beStartupError = s.beStartupError ∧ (s.setStsStore l x).beIn = s.beIn ∧
    (s.setStsStore l x).beCancels = s.beCancels ∧ (s.setStsStore l x).irqLine = s.irqLine ∧
    (s.setStsStore l x).params = s.params ∧ (s.setStsStore l x).faults = s.faults ∧
    (s.setStsStore l x).reply = s.reply ∧ (s.setStsStore l x).inputs = s.inputs ∧
    (s.setStsStore l x).freeCount = s.freeCount := by
  refine ⟨rfl, rfl, rfl, rfl, rfl, rfl, rfl, rfl, rfl, rfl, rfl, rfl, rfl, rfl, rfl, rfl, rfl, rfl, rfl⟩

theorem State.bank_setStsStore (s : State) (l : Locality) (x : Word) (k : Locality) :
    (s.setStsStore l x).bank k = if k = l then { s.bank l with sts := x } else s.bank k := by
  simp only [State.setStsStore, State.bank_setBank]

@[simp] theorem State.setStsStore_fields (s : State) (l : Locality) (x : Word) (k : Locality) :
    ((s.setStsStore l x).bank k).state = (s.bank k).state ∧ ((s.setStsStore l x).bank k).access = (s.bank k).access ∧
    ((s.setStsStore l x).bank k).sts = (if k = l then x else (s.bank k).sts) ∧
    ((s.setStsStore l x).bank k).ifaceId = (s.bank k).ifaceId ∧ ((s.setStsStore l x).bank k).inte = (s.bank k).inte ∧
    ((s.setStsStore l x).bank k).ints = (s.bank k).ints := by
  rw [State.bank_setStsStore]
  split
  · subst k; simp
  · simp

@[simp] theorem State.setInte_frame (s : State) (l : Locality) (x : Word) :
    (s.setInte l x).activeLocty = s.activeLocty ∧ (s.setInte l x).nextLocty = s.nextLocty ∧
    (s.setInte l x).abortingLocty = s.abortingLocty ∧ (s.setInte l x).rwOffset = s.rwOffset ∧
    (s.setInte l x).beTpmVersion = s.beTpmVersion ∧ (s.setInte l x).buffer = s.buffer ∧
    (s.setInte l x).bufferSize = s.bufferSize ∧ (s.setInte l x).cmd = s.cmd ∧
    (s.setInte l x).beOutstanding = s.beOutstanding ∧ (s.setInte l x).beEstablished = s.beEstablished ∧
    (s.setInte l x).beStartupError = s.beStartupError ∧ (s.setInte l x).beIn = s.beIn ∧
    (s.setInte l x).beCancels = s.beCancels ∧ (s.setInte l x).irqLine = s.irqLine ∧
    (s.setInte l x).params = s.params ∧ (s.setInte l x).faults = s.faults ∧ (s.setInte l x).reply = s.reply ∧
    (s.setInte l x).inputs = s.inputs ∧ (s.setInte l x).freeCount = s.freeCount := by
  refine ⟨rfl, rfl, rfl, rfl, rfl, rfl, rfl, rfl, rfl, rfl, rfl, rfl, rfl, rfl, rfl, rfl, rfl, rfl, rfl⟩

theorem State.bank_setInte (s : State) (l : Locality) (x : Word) (k : Locality) :
    (s.setInte l x).bank k = if k = l then { s.bank l with inte := x } else s.bank k := by
  simp only [State.setInte, State.bank_setBank]

@[simp] theorem State.setInte_fields (s : State) (l : Locality) (x : Word) (k : Locality) :
    ((s.setInte l x).bank k).state = (s.bank k).state ∧ ((s.setInte l x).bank k).access = (s.bank k).access ∧
    ((s.setInte l x).bank k).sts = (s.bank k).sts ∧ ((s.setInte l x).bank k).ifaceId = (s.bank k).ifaceId ∧
    ((s.setInte l x).bank k).inte = (if k = l then x else (s.bank k).inte) ∧
    ((s.setInte l x).bank k).ints = (s.bank k).ints := by
  rw [State.bank_setInte]
  split
  · subst k; simp
  · simp

@[simp] theorem State.setInts_frame (s : State) (l : Locality) (x : Word) :
    (s.setInts l x).activeLocty = s.activeLocty ∧ (s.setInts l x).nextLocty = s.nextLocty ∧
    (s.setInts l x).abortingLocty = s.abortingLocty ∧ (s.setInts l x).rwOffset = s.rwOffset ∧
    (s.setInts l x).beTpmVersion = s.beTpmVersion ∧ (s.setInts l x).buffer = s.buffer ∧
    (s.setInts l x).bufferSize = s.bufferSize ∧ (s.setInts l x).cmd = s.cmd ∧
    (s.setInts l x).beOutstanding = s.beOutstanding ∧ (s.setInts l x).beEstablished = s.beEstablished ∧
    (s.setInts l x).beStartupError = s.beStartupError ∧ (s.setInts l x).beIn = s.beIn ∧
    (s.setInts l x).beCancels = s.beCancels ∧ (s.setInts l x).irqLine = s.irqLine ∧
    (s.setInts l x).params = s.params ∧ (s.setInts l x).faults = s.faults ∧ (s.setInts l x).reply = s.reply ∧
    (s.setInts l x).inputs = s.inputs ∧ (s.setInts l x).freeCount = s.freeCount := by
  refine ⟨rfl, rfl, rfl, rfl, rfl, rfl, rfl, rfl, rfl, rfl, rfl, rfl, rfl, rfl, rfl, rfl, rfl, rfl, rfl⟩

theorem State.bank_setInts (s : State) (l : Locality) (x : Word) (k : Locality) :
    (s.setInts l x).bank k = if k = l then { s.bank l with ints := x } else s.bank k := by
  simp only [State.setInts, State.bank_setBank]

@[simp] theorem State.setInts_fields (s : State) (l : Locality) (x : Word) (k : Locality) :
    ((s.setInts l x).bank k).state = (s.bank k).state ∧ ((s.setInts l x).bank k).access = (s.bank k).access ∧
    ((s.setInts l x).bank k).sts = (s.bank k).sts ∧ ((s.setInts l x).bank k).ifaceId = (s.bank k).ifaceId ∧
    ((s.setInts l x).bank k).inte = (s.bank k).inte ∧
    ((s.setInts l x).bank k).ints = (if k = l then x else (s.bank k).ints) := by
  rw [State.bank_setInts]
  split
  · subst k; simp
  · simp

@[simp] theorem State.quiet_frame (s : State) :
    (s.quiet).activeLocty = s.activeLocty ∧ (s.quiet).nextLocty = s.nextLocty ∧
    (s.quiet).abortingLocty = s.abortingLocty ∧ (s.quiet).rwOffset = s.rwOffset ∧
    (s.quiet).beTpmVersion = s.beTpmVersion ∧ (s.quiet).buffer = s.buffer ∧ (s.quiet).bufferSize = s.bufferSize ∧
    (s.quiet).cmd = s.cmd ∧ (s.quiet).beOutstanding = s.beOutstanding ∧ (s.quiet).beEstablished = s.beEstablished ∧
    (s.quiet).beStartupError = s.beStartupError ∧ (s.quiet).beIn = s.beIn ∧ (s.quiet).beCancels = s.beCancels ∧
    (s.quiet).irqLine = s.irqLine ∧ (s.quiet).params = s.params ∧ (s.quiet).faults = s.faults ∧
    (s.quiet).inputs = s.inputs ∧ (s.quiet).freeCount = s.freeCount := by
  refine ⟨rfl, rfl, rfl, rfl, rfl, rfl, rfl, rfl, rfl, rfl, rfl, rfl, rfl, rfl, rfl, rfl, rfl, rfl⟩

@[simp] theorem State.answer_frame (s : State) (n : Width) (v : Word) :
    (s.answer n v).activeLocty = s.activeLocty ∧ (s.answer n v).nextLocty = s.nextLocty ∧
    (s.answer n v).abortingLocty = s.abortingLocty ∧ (s.answer n v).rwOffset = s.rwOffset ∧
    (s.answer n v).beTpmVersion = s.beTpmVersion ∧ (s.answer n v).buffer = s.buffer ∧
    (s.answer n v).bufferSize = s.bufferSize ∧ (s.answer n v).cmd = s.cmd ∧
    (s.answer n v).beOutstanding = s.beOutstanding ∧ (s.answer n v).beEstablished = s.beEstablished ∧
    (s.answer n v).beStartupError = s.beStartupError ∧ (s.answer n v).beIn = s.beIn ∧
    (s.answer n v).beCancels = s.beCancels ∧ (s.answer n v).irqLine = s.irqLine ∧ (s.answer n v).params = s.params ∧
    (s.answer n v).faults = s.faults ∧ (s.answer n v).inputs = s.inputs ∧ (s.answer n v).freeCount = s.freeCount := by
  refine ⟨rfl, rfl, rfl, rfl, rfl, rfl, rfl, rfl, rfl, rfl, rfl, rfl, rfl, rfl, rfl, rfl, rfl, rfl⟩

@[simp] theorem State.bank_quiet (s : State) (k : Locality) : s.quiet.bank k = s.bank k := rfl

@[simp] theorem State.bank_answer (s : State) (n : Width) (v : Word) (k : Locality) : (s.answer n v).bank k = s.bank k := rfl

@[simp] theorem State.quiet_reply (s : State) : s.quiet.reply = .none := rfl

@[simp] theorem State.answer_reply (s : State) (n : Width) (v : Word) : (s.answer n v).reply = .device n v := rfl

end Sys2Proof.Machine
end

