-- ==== Sys2Proof/Laws/Ops.lean ====
section
/-! SUPPORT. For each shared operation, what it keeps (a conjunction, so that simp takes each equation) and what its
other fields become. Provers cite these instead of unfolding the operation. -/

namespace Sys2Proof.Machine

@[simp] theorem stsSet_keeps (l : Locality) (f : Word) (s : State) :
    (stsSet l f s).activeLocty = s.activeLocty ∧ (stsSet l f s).nextLocty = s.nextLocty ∧
    (stsSet l f s).abortingLocty = s.abortingLocty ∧ (stsSet l f s).rwOffset = s.rwOffset ∧
    (stsSet l f s).beTpmVersion = s.beTpmVersion ∧ (stsSet l f s).buffer = s.buffer ∧
    (stsSet l f s).bufferSize = s.bufferSize ∧ (stsSet l f s).cmd = s.cmd ∧
    (stsSet l f s).beOutstanding = s.beOutstanding ∧ (stsSet l f s).beEstablished = s.beEstablished ∧
    (stsSet l f s).beStartupError = s.beStartupError ∧ (stsSet l f s).beIn = s.beIn ∧
    (stsSet l f s).beCancels = s.beCancels ∧ (stsSet l f s).irqLine = s.irqLine ∧ (stsSet l f s).params = s.params ∧
    (stsSet l f s).faults = s.faults ∧ (stsSet l f s).reply = s.reply ∧ (stsSet l f s).inputs = s.inputs ∧
    (stsSet l f s).freeCount = s.freeCount := by
  simp [stsSet]

@[simp] theorem stsSet_bank (l : Locality) (f : Word) (s : State) (k : Locality) :
    ((stsSet l f s).bank k).state = (s.bank k).state ∧ ((stsSet l f s).bank k).access = (s.bank k).access ∧
    ((stsSet l f s).bank k).ifaceId = (s.bank k).ifaceId ∧ ((stsSet l f s).bank k).inte = (s.bank k).inte ∧
    ((stsSet l f s).bank k).ints = (s.bank k).ints := by
  simp [stsSet]

@[simp] theorem stsSet_sts (l : Locality) (f : Word) (s : State) (k : Locality) :
    ((stsSet l f s).bank k).sts = if k = l then stsReplace (s.bank l).sts f else (s.bank k).sts := by
  simp [stsSet]

@[simp] theorem raiseIrq_keeps (l : Option Locality) (m : Word) (s : State) :
    (raiseIrq l m s).activeLocty = s.activeLocty ∧ (raiseIrq l m s).nextLocty = s.nextLocty ∧
    (raiseIrq l m s).abortingLocty = s.abortingLocty ∧ (raiseIrq l m s).rwOffset = s.rwOffset ∧
    (raiseIrq l m s).beTpmVersion = s.beTpmVersion ∧ (raiseIrq l m s).buffer = s.buffer ∧
    (raiseIrq l m s).bufferSize = s.bufferSize ∧ (raiseIrq l m s).cmd = s.cmd ∧
    (raiseIrq l m s).beOutstanding = s.beOutstanding ∧ (raiseIrq l m s).beEstablished = s.beEstablished ∧
    (raiseIrq l m s).beStartupError = s.beStartupError ∧ (raiseIrq l m s).beIn = s.beIn ∧
    (raiseIrq l m s).beCancels = s.beCancels ∧ (raiseIrq l m s).params = s.params ∧
    (raiseIrq l m s).faults = s.faults ∧ (raiseIrq l m s).reply = s.reply ∧ (raiseIrq l m s).inputs = s.inputs ∧
    (raiseIrq l m s).freeCount = s.freeCount := by
  unfold raiseIrq; split
  · simp
  · split <;> simp

@[simp] theorem raiseIrq_bank (l : Option Locality) (m : Word) (s : State) (k : Locality) :
    ((raiseIrq l m s).bank k).state = (s.bank k).state ∧ ((raiseIrq l m s).bank k).access = (s.bank k).access ∧
    ((raiseIrq l m s).bank k).sts = (s.bank k).sts ∧ ((raiseIrq l m s).bank k).ifaceId = (s.bank k).ifaceId ∧
    ((raiseIrq l m s).bank k).inte = (s.bank k).inte := by
  unfold raiseIrq; split
  · simp
  · split <;> simp

/-- Whether an interrupt on l reaches the line: INT_ENABLED and one of the mask's sources are enabled
(spec/60_exceptions.md R310). -/
theorem raiseIrq_none (m : Word) (s : State) : raiseIrq none m s = s := rfl

theorem raiseIrq_enabled {l : Locality} {m : Word} {s : State} (he : anySet (s.bank l).inte intEnabled)
    (hm : anySet (s.bank l).inte m) :
    raiseIrq (some l) m s = { s.setInts l (setBits (s.bank l).ints m) with irqLine := true } := by
  simp [raiseIrq, he, hm]

theorem raiseIrq_disabled {l : Locality} {m : Word} {s : State}
    (h : anySet (s.bank l).inte intEnabled = false ∨ anySet (s.bank l).inte m = false) :
    raiseIrq (some l) m s = s := by
  rcases h with h | h <;> simp [raiseIrq, h]

/-- INT_STATUS after the interrupt primitive: the mask is OR'd in or nothing changes. -/
theorem raiseIrq_ints (l : Option Locality) (m : Word) (s : State) (k : Locality) :
    ((raiseIrq l m s).bank k).ints = (s.bank k).ints ∨
      (l = some k ∧ ((raiseIrq l m s).bank k).ints = setBits (s.bank k).ints m) := by
  unfold raiseIrq
  split
  · exact .inl rfl
  · rename_i l
    split
    · by_cases hk : k = l
      · subst hk; right; simp
      · left; simp [hk]
    · exact .inl rfl

/-- The line after the interrupt primitive: asserted or unchanged. -/
theorem raiseIrq_line (l : Option Locality) (m : Word) (s : State) :
    (raiseIrq l m s).irqLine = s.irqLine ∨ (raiseIrq l m s).irqLine = true := by
  unfold raiseIrq
  split
  · exact .inl rfl
  · split
    · exact .inr rfl
    · exact .inl rfl

@[simp] theorem ackIrq_keeps (l : Locality) (wv : Word) (s : State) :
    (ackIrq l wv s).activeLocty = s.activeLocty ∧ (ackIrq l wv s).nextLocty = s.nextLocty ∧
    (ackIrq l wv s).abortingLocty = s.abortingLocty ∧ (ackIrq l wv s).rwOffset = s.rwOffset ∧
    (ackIrq l wv s).beTpmVersion = s.beTpmVersion ∧ (ackIrq l wv s).buffer = s.buffer ∧
    (ackIrq l wv s).bufferSize = s.bufferSize ∧ (ackIrq l wv s).cmd = s.cmd ∧
    (ackIrq l wv s).beOutstanding = s.beOutstanding ∧ (ackIrq l wv s).beEstablished = s.beEstablished ∧
    (ackIrq l wv s).beStartupError = s.beStartupError ∧ (ackIrq l wv s).beIn = s.beIn ∧
    (ackIrq l wv s).beCancels = s.beCancels ∧ (ackIrq l wv s).params = s.params ∧ (ackIrq l wv s).faults = s.faults ∧
    (ackIrq l wv s).reply = s.reply ∧ (ackIrq l wv s).inputs = s.inputs ∧ (ackIrq l wv s).freeCount = s.freeCount := by
  unfold ackIrq; dsimp only; split
  · split <;> simp
  · simp

@[simp] theorem ackIrq_bank (l : Locality) (wv : Word) (s : State) (k : Locality) :
    ((ackIrq l wv s).bank k).state = (s.bank k).state ∧ ((ackIrq l wv s).bank k).access = (s.bank k).access ∧
    ((ackIrq l wv s).bank k).sts = (s.bank k).sts ∧ ((ackIrq l wv s).bank k).ifaceId = (s.bank k).ifaceId ∧
    ((ackIrq l wv s).bank k).inte = (s.bank k).inte := by
  unfold ackIrq; dsimp only; split
  · split <;> simp
  · simp

@[simp] theorem ackIrq_ints (l : Locality) (wv : Word) (s : State) (k : Locality) :
    ((ackIrq l wv s).bank k).ints =
      if k = l then clearBits (s.bank l).ints (wv &&& interruptsSupported) else (s.bank k).ints := by
  unfold ackIrq; dsimp only; split
  · split <;> simp
  · simp

@[simp] theorem recordFault_keeps (r : FaultReason) (s : State) :
    (recordFault r s).activeLocty = s.activeLocty ∧ (recordFault r s).nextLocty = s.nextLocty ∧
    (recordFault r s).abortingLocty = s.abortingLocty ∧ (recordFault r s).rwOffset = s.rwOffset ∧
    (recordFault r s).beTpmVersion = s.beTpmVersion ∧ (recordFault r s).buffer = s.buffer ∧
    (recordFault r s).bufferSize = s.bufferSize ∧ (recordFault r s).cmd = s.cmd ∧
    (recordFault r s).beOutstanding = s.beOutstanding ∧ (recordFault r s).beEstablished = s.beEstablished ∧
    (recordFault r s).beStartupError = s.beStartupError ∧ (recordFault r s).beIn = s.beIn ∧
    (recordFault r s).beCancels = s.beCancels ∧ (recordFault r s).irqLine = s.irqLine ∧
    (recordFault r s).params = s.params ∧ (recordFault r s).reply = s.reply ∧ (recordFault r s).inputs = s.inputs ∧
    (recordFault r s).freeCount = s.freeCount := by
  simp [recordFault]

@[simp] theorem recordFault_bank (r : FaultReason) (s : State) (k : Locality) :
    ((recordFault r s).bank k).state = (s.bank k).state ∧ ((recordFault r s).bank k).access = (s.bank k).access ∧
    ((recordFault r s).bank k).sts = (s.bank k).sts ∧ ((recordFault r s).bank k).ifaceId = (s.bank k).ifaceId ∧
    ((recordFault r s).bank k).inte = (s.bank k).inte ∧ ((recordFault r s).bank k).ints = (s.bank k).ints := by
  simp [recordFault]

@[simp] theorem submit_keeps (l : Locality) (s : State) :
    (submit l s).activeLocty = s.activeLocty ∧ (submit l s).nextLocty = s.nextLocty ∧
    (submit l s).abortingLocty = s.abortingLocty ∧ (submit l s).rwOffset = s.rwOffset ∧
    (submit l s).beTpmVersion = s.beTpmVersion ∧ (submit l s).buffer = s.buffer ∧
    (submit l s).bufferSize = s.bufferSize ∧ (submit l s).beEstablished = s.beEstablished ∧
    (submit l s).beStartupError = s.beStartupError ∧ (submit l s).beCancels = s.beCancels ∧
    (submit l s).irqLine = s.irqLine ∧ (submit l s).params = s.params ∧ (submit l s).reply = s.reply ∧
    (submit l s).inputs = s.inputs ∧ (submit l s).freeCount = s.freeCount := by
  unfold submit; split <;> simp

@[simp] theorem submit_bank (l : Locality) (s : State) (k : Locality) :
    ((submit l s).bank k).state = (s.bank k).state ∧ ((submit l s).bank k).access = (s.bank k).access ∧
    ((submit l s).bank k).sts = (s.bank k).sts ∧ ((submit l s).bank k).ifaceId = (s.bank k).ifaceId ∧
    ((submit l s).bank k).inte = (s.bank k).inte ∧ ((submit l s).bank k).ints = (s.bank k).ints := by
  unfold submit; split <;> simp

@[simp] theorem submit_cmd (l : Locality) (s : State) :
    (submit l s).cmd = { locty := l, inLen := s.rwOffset, outCap := s.bufferSize } ∧
    (submit l s).beIn = Memory.readFirst s.buffer s.rwOffset.toNat ∧ (submit l s).beOutstanding = true := by
  unfold submit; split <;> simp

@[simp] theorem backendCancel_keeps (s : State) :
    (backendCancel s).activeLocty = s.activeLocty ∧ (backendCancel s).nextLocty = s.nextLocty ∧
    (backendCancel s).abortingLocty = s.abortingLocty ∧ (backendCancel s).rwOffset = s.rwOffset ∧
    (backendCancel s).beTpmVersion = s.beTpmVersion ∧ (backendCancel s).buffer = s.buffer ∧
    (backendCancel s).bufferSize = s.bufferSize ∧ (backendCancel s).cmd = s.cmd ∧
    (backendCancel s).beOutstanding = s.beOutstanding ∧ (backendCancel s).beEstablished = s.beEstablished ∧
    (backendCancel s).beStartupError = s.beStartupError ∧ (backendCancel s).beIn = s.beIn ∧
    (backendCancel s).irqLine = s.irqLine ∧ (backendCancel s).params = s.params ∧
    (backendCancel s).faults = s.faults ∧ (backendCancel s).reply = s.reply ∧ (backendCancel s).inputs = s.inputs ∧
    (backendCancel s).freeCount = s.freeCount := by
  simp [backendCancel]

@[simp] theorem backendCancel_bank (s : State) (k : Locality) :
    ((backendCancel s).bank k).state = (s.bank k).state ∧ ((backendCancel s).bank k).access = (s.bank k).access ∧
    ((backendCancel s).bank k).sts = (s.bank k).sts ∧ ((backendCancel s).bank k).ifaceId = (s.bank k).ifaceId ∧
    ((backendCancel s).bank k).inte = (s.bank k).inte ∧ ((backendCancel s).bank k).ints = (s.bank k).ints := by
  simp [backendCancel]

@[simp] theorem resetEstablished_keeps (s : State) :
    (resetEstablished s).activeLocty = s.activeLocty ∧ (resetEstablished s).nextLocty = s.nextLocty ∧
    (resetEstablished s).abortingLocty = s.abortingLocty ∧ (resetEstablished s).rwOffset = s.rwOffset ∧
    (resetEstablished s).beTpmVersion = s.beTpmVersion ∧ (resetEstablished s).buffer = s.buffer ∧
    (resetEstablished s).bufferSize = s.bufferSize ∧ (resetEstablished s).cmd = s.cmd ∧
    (resetEstablished s).beOutstanding = s.beOutstanding ∧ (resetEstablished s).beStartupError = s.beStartupError ∧
    (resetEstablished s).beIn = s.beIn ∧ (resetEstablished s).beCancels = s.beCancels ∧
    (resetEstablished s).irqLine = s.irqLine ∧ (resetEstablished s).params = s.params ∧
    (resetEstablished s).faults = s.faults ∧ (resetEstablished s).reply = s.reply ∧
    (resetEstablished s).inputs = s.inputs ∧ (resetEstablished s).freeCount = s.freeCount := by
  simp [resetEstablished]

@[simp] theorem resetEstablished_bank (s : State) (k : Locality) :
    ((resetEstablished s).bank k).state = (s.bank k).state ∧
    ((resetEstablished s).bank k).access = (s.bank k).access ∧ ((resetEstablished s).bank k).sts = (s.bank k).sts ∧
    ((resetEstablished s).bank k).ifaceId = (s.bank k).ifaceId ∧
    ((resetEstablished s).bank k).inte = (s.bank k).inte ∧ ((resetEstablished s).bank k).ints = (s.bank k).ints := by
  simp [resetEstablished]

@[simp] theorem dropOldOwner_keeps (new : Option Locality) (s : State) :
    (dropOldOwner new s).activeLocty = s.activeLocty ∧ (dropOldOwner new s).nextLocty = s.nextLocty ∧
    (dropOldOwner new s).abortingLocty = s.abortingLocty ∧ (dropOldOwner new s).rwOffset = s.rwOffset ∧
    (dropOldOwner new s).beTpmVersion = s.beTpmVersion ∧ (dropOldOwner new s).buffer = s.buffer ∧
    (dropOldOwner new s).bufferSize = s.bufferSize ∧ (dropOldOwner new s).cmd = s.cmd ∧
    (dropOldOwner new s).beOutstanding = s.beOutstanding ∧ (dropOldOwner new s).beEstablished = s.beEstablished ∧
    (dropOldOwner new s).beStartupError = s.beStartupError ∧ (dropOldOwner new s).beIn = s.beIn ∧
    (dropOldOwner new s).beCancels = s.beCancels ∧ (dropOldOwner new s).irqLine = s.irqLine ∧
    (dropOldOwner new s).params = s.params ∧ (dropOldOwner new s).faults = s.faults ∧
    (dropOldOwner new s).reply = s.reply ∧ (dropOldOwner new s).inputs = s.inputs ∧
    (dropOldOwner new s).freeCount = s.freeCount := by
  unfold dropOldOwner; split
  · split <;> simp
  · simp

@[simp] theorem dropOldOwner_bank (new : Option Locality) (s : State) (k : Locality) :
    ((dropOldOwner new s).bank k).state = (s.bank k).state ∧ ((dropOldOwner new s).bank k).sts = (s.bank k).sts ∧
    ((dropOldOwner new s).bank k).ifaceId = (s.bank k).ifaceId ∧
    ((dropOldOwner new s).bank k).inte = (s.bank k).inte ∧ ((dropOldOwner new s).bank k).ints = (s.bank k).ints := by
  unfold dropOldOwner; split
  · split <;> simp
  · simp

@[simp] theorem takeOwnership_keeps (new : Option Locality) (s : State) :
    (takeOwnership new s).nextLocty = s.nextLocty ∧ (takeOwnership new s).abortingLocty = s.abortingLocty ∧
    (takeOwnership new s).rwOffset = s.rwOffset ∧ (takeOwnership new s).beTpmVersion = s.beTpmVersion ∧
    (takeOwnership new s).buffer = s.buffer ∧ (takeOwnership new s).bufferSize = s.bufferSize ∧
    (takeOwnership new s).cmd = s.cmd ∧ (takeOwnership new s).beOutstanding = s.beOutstanding ∧
    (takeOwnership new s).beEstablished = s.beEstablished ∧ (takeOwnership new s).beStartupError = s.beStartupError ∧
    (takeOwnership new s).beIn = s.beIn ∧ (takeOwnership new s).beCancels = s.beCancels ∧
    (takeOwnership new s).irqLine = s.irqLine ∧ (takeOwnership new s).params = s.params ∧
    (takeOwnership new s).faults = s.faults ∧ (takeOwnership new s).reply = s.reply ∧
    (takeOwnership new s).inputs = s.inputs ∧ (takeOwnership new s).freeCount = s.freeCount ∧
    (takeOwnership new s).activeLocty = new := by
  unfold takeOwnership; dsimp only; split <;> simp

@[simp] theorem takeOwnership_bank (new : Option Locality) (s : State) (k : Locality) :
    ((takeOwnership new s).bank k).state = (s.bank k).state ∧ ((takeOwnership new s).bank k).sts = (s.bank k).sts ∧
    ((takeOwnership new s).bank k).ifaceId = (s.bank k).ifaceId ∧
    ((takeOwnership new s).bank k).inte = (s.bank k).inte ∧ ((takeOwnership new s).bank k).ints = (s.bank k).ints := by
  unfold takeOwnership; dsimp only; split <;> simp

@[simp] theorem newActiveLocality_keeps (new : Option Locality) (s : State) :
    (newActiveLocality new s).nextLocty = s.nextLocty ∧ (newActiveLocality new s).abortingLocty = s.abortingLocty ∧
    (newActiveLocality new s).rwOffset = s.rwOffset ∧ (newActiveLocality new s).beTpmVersion = s.beTpmVersion ∧
    (newActiveLocality new s).buffer = s.buffer ∧ (newActiveLocality new s).bufferSize = s.bufferSize ∧
    (newActiveLocality new s).cmd = s.cmd ∧ (newActiveLocality new s).beOutstanding = s.beOutstanding ∧
    (newActiveLocality new s).beEstablished = s.beEstablished ∧
    (newActiveLocality new s).beStartupError = s.beStartupError ∧ (newActiveLocality new s).beIn = s.beIn ∧
    (newActiveLocality new s).beCancels = s.beCancels ∧ (newActiveLocality new s).params = s.params ∧
    (newActiveLocality new s).faults = s.faults ∧ (newActiveLocality new s).reply = s.reply ∧
    (newActiveLocality new s).inputs = s.inputs ∧ (newActiveLocality new s).freeCount = s.freeCount ∧
    (newActiveLocality new s).activeLocty = new := by
  unfold newActiveLocality; dsimp only; split <;> simp

@[simp] theorem newActiveLocality_bank (new : Option Locality) (s : State) (k : Locality) :
    ((newActiveLocality new s).bank k).state = (s.bank k).state ∧
    ((newActiveLocality new s).bank k).sts = (s.bank k).sts ∧
    ((newActiveLocality new s).bank k).ifaceId = (s.bank k).ifaceId ∧
    ((newActiveLocality new s).bank k).inte = (s.bank k).inte := by
  unfold newActiveLocality; dsimp only; split <;> simp

/-- ACCESS of every locality after a hand-over (spec/41_access.md R148): the interrupt does not touch it. -/
@[simp] theorem newActiveLocality_access (new : Option Locality) (s : State) (k : Locality) :
    ((newActiveLocality new s).bank k).access = ((takeOwnership new (dropOldOwner new s)).bank k).access := by
  unfold newActiveLocality; dsimp only; split <;> simp

/-- A hand-over that changes nothing raises no interrupt. -/
theorem newActiveLocality_same {new : Option Locality} {s : State} (h : s.activeLocty = new) :
    newActiveLocality new s = takeOwnership new (dropOldOwner new s) := by
  simp [newActiveLocality, h]

/-- A hand-over that changes the owner raises LOCALITY_CHANGED on the new one. -/
theorem newActiveLocality_change {new : Option Locality} {s : State} (h : s.activeLocty ≠ new) :
    newActiveLocality new s = raiseIrq new intLocalityChanged (takeOwnership new (dropOldOwner new s)) := by
  simp [newActiveLocality, h]

@[simp] theorem selfAbort_keeps (x : Locality) (s : State) :
    (selfAbort x s).activeLocty = s.activeLocty ∧ (selfAbort x s).nextLocty = s.nextLocty ∧
    (selfAbort x s).abortingLocty = s.abortingLocty ∧ (selfAbort x s).rwOffset = s.rwOffset ∧
    (selfAbort x s).beTpmVersion = s.beTpmVersion ∧ (selfAbort x s).buffer = s.buffer ∧
    (selfAbort x s).bufferSize = s.bufferSize ∧ (selfAbort x s).cmd = s.cmd ∧
    (selfAbort x s).beOutstanding = s.beOutstanding ∧ (selfAbort x s).beEstablished = s.beEstablished ∧
    (selfAbort x s).beStartupError = s.beStartupError ∧ (selfAbort x s).beIn = s.beIn ∧
    (selfAbort x s).beCancels = s.beCancels ∧ (selfAbort x s).params = s.params ∧ (selfAbort x s).faults = s.faults ∧
    (selfAbort x s).reply = s.reply ∧ (selfAbort x s).inputs = s.inputs ∧ (selfAbort x s).freeCount = s.freeCount := by
  simp [selfAbort]

@[simp] theorem selfAbort_bank (x : Locality) (s : State) (k : Locality) :
    ((selfAbort x s).bank k).access = (s.bank k).access ∧ ((selfAbort x s).bank k).ifaceId = (s.bank k).ifaceId ∧
    ((selfAbort x s).bank k).inte = (s.bank k).inte := by
  simp [selfAbort]

@[simp] theorem selfAbort_fields (x : Locality) (s : State) (k : Locality) :
    ((selfAbort x s).bank k).state = (if k = x then .ready else (s.bank k).state) ∧
    ((selfAbort x s).bank k).sts = (if k = x then stsReplace (s.bank x).sts stsCommandReady else (s.bank k).sts) := by
  simp [selfAbort]

@[simp] theorem abort_keeps (s : State) :
    (abort s).beTpmVersion = s.beTpmVersion ∧ (abort s).buffer = s.buffer ∧ (abort s).bufferSize = s.bufferSize ∧
    (abort s).cmd = s.cmd ∧ (abort s).beOutstanding = s.beOutstanding ∧ (abort s).beEstablished = s.beEstablished ∧
    (abort s).beStartupError = s.beStartupError ∧ (abort s).beIn = s.beIn ∧ (abort s).beCancels = s.beCancels ∧
    (abort s).params = s.params ∧ (abort s).faults = s.faults ∧ (abort s).reply = s.reply ∧
    (abort s).inputs = s.inputs ∧ (abort s).freeCount = s.freeCount ∧ (abort s).nextLocty = none ∧
    (abort s).abortingLocty = none ∧ (abort s).rwOffset = 0#16 ∧ (abort s).activeLocty = s.nextLocty := by
  unfold abort; dsimp only; split
  · split <;> simp
  · simp

@[simp] theorem abort_bank (s : State) (k : Locality) :
    ((abort s).bank k).ifaceId = (s.bank k).ifaceId ∧ ((abort s).bank k).inte = (s.bank k).inte := by
  unfold abort; dsimp only; split
  · split <;> simp
  · simp

@[simp] theorem prepAbort_keeps (a : Option Locality) (n : Locality) (s : State) :
    (prepAbort a n s).beTpmVersion = s.beTpmVersion ∧ (prepAbort a n s).buffer = s.buffer ∧
    (prepAbort a n s).bufferSize = s.bufferSize ∧ (prepAbort a n s).cmd = s.cmd ∧
    (prepAbort a n s).beOutstanding = s.beOutstanding ∧ (prepAbort a n s).beEstablished = s.beEstablished ∧
    (prepAbort a n s).beStartupError = s.beStartupError ∧ (prepAbort a n s).beIn = s.beIn ∧
    (prepAbort a n s).params = s.params ∧ (prepAbort a n s).faults = s.faults ∧ (prepAbort a n s).reply = s.reply ∧
    (prepAbort a n s).inputs = s.inputs ∧ (prepAbort a n s).freeCount = s.freeCount := by
  unfold prepAbort; dsimp only; split <;> simp

@[simp] theorem prepAbort_bank (a : Option Locality) (n : Locality) (s : State) (k : Locality) :
    ((prepAbort a n s).bank k).ifaceId = (s.bank k).ifaceId ∧ ((prepAbort a n s).bank k).inte = (s.bank k).inte := by
  unfold prepAbort; dsimp only; split <;> simp

@[simp] theorem storeByte_keeps (b : Byte) (s : State) :
    (storeByte b s).activeLocty = s.activeLocty ∧ (storeByte b s).nextLocty = s.nextLocty ∧
    (storeByte b s).abortingLocty = s.abortingLocty ∧ (storeByte b s).beTpmVersion = s.beTpmVersion ∧
    (storeByte b s).bufferSize = s.bufferSize ∧ (storeByte b s).cmd = s.cmd ∧
    (storeByte b s).beOutstanding = s.beOutstanding ∧ (storeByte b s).beEstablished = s.beEstablished ∧
    (storeByte b s).beStartupError = s.beStartupError ∧ (storeByte b s).beIn = s.beIn ∧
    (storeByte b s).beCancels = s.beCancels ∧ (storeByte b s).irqLine = s.irqLine ∧
    (storeByte b s).params = s.params ∧ (storeByte b s).reply = s.reply ∧ (storeByte b s).inputs = s.inputs ∧
    (storeByte b s).freeCount = s.freeCount := by
  unfold storeByte; split <;> simp

@[simp] theorem storeByte_bank (b : Byte) (s : State) (k : Locality) :
    ((storeByte b s).bank k).state = (s.bank k).state ∧ ((storeByte b s).bank k).access = (s.bank k).access ∧
    ((storeByte b s).bank k).sts = (s.bank k).sts ∧ ((storeByte b s).bank k).ifaceId = (s.bank k).ifaceId ∧
    ((storeByte b s).bank k).inte = (s.bank k).inte ∧ ((storeByte b s).bank k).ints = (s.bank k).ints := by
  unfold storeByte; split <;> simp

@[simp] theorem storeByte_buffer (b : Byte) (s : State) :
    (storeByte b s).buffer = Memory.write s.buffer s.rwOffset.toNat b ∧ (storeByte b s).rwOffset = s.rwOffset + 1#16 := by
  unfold storeByte; split <;> simp

@[simp] theorem checkComplete_keeps (l : Locality) (s : State) :
    (checkComplete l s).activeLocty = s.activeLocty ∧ (checkComplete l s).nextLocty = s.nextLocty ∧
    (checkComplete l s).abortingLocty = s.abortingLocty ∧ (checkComplete l s).rwOffset = s.rwOffset ∧
    (checkComplete l s).beTpmVersion = s.beTpmVersion ∧ (checkComplete l s).buffer = s.buffer ∧
    (checkComplete l s).bufferSize = s.bufferSize ∧ (checkComplete l s).cmd = s.cmd ∧
    (checkComplete l s).beOutstanding = s.beOutstanding ∧ (checkComplete l s).beEstablished = s.beEstablished ∧
    (checkComplete l s).beStartupError = s.beStartupError ∧ (checkComplete l s).beIn = s.beIn ∧
    (checkComplete l s).beCancels = s.beCancels ∧ (checkComplete l s).params = s.params ∧
    (checkComplete l s).faults = s.faults ∧ (checkComplete l s).reply = s.reply ∧
    (checkComplete l s).inputs = s.inputs ∧ (checkComplete l s).freeCount = s.freeCount := by
  unfold checkComplete; dsimp only; split
  · split <;> split <;> simp
  · simp

@[simp] theorem checkComplete_bank (l : Locality) (s : State) (k : Locality) :
    ((checkComplete l s).bank k).state = (s.bank k).state ∧ ((checkComplete l s).bank k).access = (s.bank k).access ∧
    ((checkComplete l s).bank k).ifaceId = (s.bank k).ifaceId ∧ ((checkComplete l s).bank k).inte = (s.bank k).inte := by
  unfold checkComplete; dsimp only; split
  · split <;> split <;> simp
  · simp

@[simp] theorem appendBytes_keeps (l : Locality) (bs : List Byte) (s : State) :
    (appendBytes l bs s).activeLocty = s.activeLocty ∧ (appendBytes l bs s).nextLocty = s.nextLocty ∧
    (appendBytes l bs s).abortingLocty = s.abortingLocty ∧ (appendBytes l bs s).beTpmVersion = s.beTpmVersion ∧
    (appendBytes l bs s).bufferSize = s.bufferSize ∧ (appendBytes l bs s).cmd = s.cmd ∧
    (appendBytes l bs s).beOutstanding = s.beOutstanding ∧ (appendBytes l bs s).beEstablished = s.beEstablished ∧
    (appendBytes l bs s).beStartupError = s.beStartupError ∧ (appendBytes l bs s).beIn = s.beIn ∧
    (appendBytes l bs s).beCancels = s.beCancels ∧ (appendBytes l bs s).params = s.params ∧
    (appendBytes l bs s).reply = s.reply ∧ (appendBytes l bs s).inputs = s.inputs ∧
    (appendBytes l bs s).freeCount = s.freeCount := by
  induction bs generalizing s with
  | nil => simp [appendBytes]
  | cons b bs ih =>
    unfold appendBytes
    split
    · split
      · simp [ih]
      · simp
    · simp

@[simp] theorem appendBytes_bank (l : Locality) (bs : List Byte) (s : State) (k : Locality) :
    ((appendBytes l bs s).bank k).state = (s.bank k).state ∧
    ((appendBytes l bs s).bank k).access = (s.bank k).access ∧
    ((appendBytes l bs s).bank k).ifaceId = (s.bank k).ifaceId ∧ ((appendBytes l bs s).bank k).inte = (s.bank k).inte := by
  induction bs generalizing s with
  | nil => simp [appendBytes]
  | cons b bs ih =>
    unfold appendBytes
    split
    · split
      · simp [ih]
      · simp
    · simp

/-- With EXPECT clear no byte is taken (spec/42_fifo.md R173). -/
theorem appendBytes_closed {l : Locality} {s : State} (bs : List Byte) (h : anySet (s.bank l).sts stsExpect = false) :
    appendBytes l bs s = s := by
  cases bs <;> simp [appendBytes, h]

/-- A status-set without EXPECT clears EXPECT: no status bit it keeps is EXPECT. -/
theorem stsReplace_valid_closed (sts : Word) : anySet (stsReplace sts stsValid) stsExpect = false := by
  have h : stsReplace sts stsValid &&& stsExpect = 0#32 := by
    refine BitVec.eq_of_getLsbD_eq fun i hi => ?_
    simp only [stsReplace, stsPersist, stsValid, stsExpect, BitVec.getLsbD_and, BitVec.getLsbD_or]
    interval_cases i <;> simp
  simp [anySet, h]

/-- The bytes of an access are appended one after the other (spec/42_fifo.md R170, R173). -/
theorem appendBytes_cons (l : Locality) (b : Byte) (bs : List Byte) (s : State) :
    appendBytes l (b :: bs) s = appendBytes l bs (appendBytes l [b] s) := by
  by_cases he : anySet (s.bank l).sts stsExpect = true
  · by_cases hc : s.rwOffset.toNat < s.bufferSize.val
    · simp [appendBytes, he, hc]
    · simp only [appendBytes, he, hc, if_true, if_false]
      rw [appendBytes_closed]
      simp [stsReplace_valid_closed]
  · simp only [Bool.not_eq_true] at he
    simp [appendBytes_closed, he]

@[simp] theorem enterReception_keeps (l : Locality) (s : State) :
    (enterReception l s).activeLocty = s.activeLocty ∧ (enterReception l s).nextLocty = s.nextLocty ∧
    (enterReception l s).abortingLocty = s.abortingLocty ∧ (enterReception l s).rwOffset = s.rwOffset ∧
    (enterReception l s).beTpmVersion = s.beTpmVersion ∧ (enterReception l s).buffer = s.buffer ∧
    (enterReception l s).bufferSize = s.bufferSize ∧ (enterReception l s).cmd = s.cmd ∧
    (enterReception l s).beOutstanding = s.beOutstanding ∧ (enterReception l s).beEstablished = s.beEstablished ∧
    (enterReception l s).beStartupError = s.beStartupError ∧ (enterReception l s).beIn = s.beIn ∧
    (enterReception l s).beCancels = s.beCancels ∧ (enterReception l s).irqLine = s.irqLine ∧
    (enterReception l s).params = s.params ∧ (enterReception l s).faults = s.faults ∧
    (enterReception l s).reply = s.reply ∧ (enterReception l s).inputs = s.inputs ∧
    (enterReception l s).freeCount = s.freeCount := by
  unfold enterReception; split <;> simp

@[simp] theorem enterReception_bank (l : Locality) (s : State) (k : Locality) :
    ((enterReception l s).bank k).access = (s.bank k).access ∧
    ((enterReception l s).bank k).ifaceId = (s.bank k).ifaceId ∧
    ((enterReception l s).bank k).inte = (s.bank k).inte ∧ ((enterReception l s).bank k).ints = (s.bank k).ints := by
  unfold enterReception; split <;> simp

@[simp] theorem fifoWrite_keeps (l : Locality) (bs : List Byte) (s : State) :
    (fifoWrite l bs s).activeLocty = s.activeLocty ∧ (fifoWrite l bs s).nextLocty = s.nextLocty ∧
    (fifoWrite l bs s).abortingLocty = s.abortingLocty ∧ (fifoWrite l bs s).beTpmVersion = s.beTpmVersion ∧
    (fifoWrite l bs s).bufferSize = s.bufferSize ∧ (fifoWrite l bs s).cmd = s.cmd ∧
    (fifoWrite l bs s).beOutstanding = s.beOutstanding ∧ (fifoWrite l bs s).beEstablished = s.beEstablished ∧
    (fifoWrite l bs s).beStartupError = s.beStartupError ∧ (fifoWrite l bs s).beIn = s.beIn ∧
    (fifoWrite l bs s).beCancels = s.beCancels ∧ (fifoWrite l bs s).params = s.params ∧
    (fifoWrite l bs s).reply = s.reply ∧ (fifoWrite l bs s).inputs = s.inputs ∧
    (fifoWrite l bs s).freeCount = s.freeCount := by
  unfold fifoWrite; split
  · split <;> simp
  · simp

@[simp] theorem fifoWrite_bank (l : Locality) (bs : List Byte) (s : State) (k : Locality) :
    ((fifoWrite l bs s).bank k).access = (s.bank k).access ∧
    ((fifoWrite l bs s).bank k).ifaceId = (s.bank k).ifaceId ∧ ((fifoWrite l bs s).bank k).inte = (s.bank k).inte := by
  unfold fifoWrite; split
  · split <;> simp
  · simp

@[simp] theorem takeByte_keeps (s : State) :
    ((takeByte s).2).activeLocty = s.activeLocty ∧ ((takeByte s).2).nextLocty = s.nextLocty ∧
    ((takeByte s).2).abortingLocty = s.abortingLocty ∧ ((takeByte s).2).beTpmVersion = s.beTpmVersion ∧
    ((takeByte s).2).buffer = s.buffer ∧ ((takeByte s).2).bufferSize = s.bufferSize ∧ ((takeByte s).2).cmd = s.cmd ∧
    ((takeByte s).2).beOutstanding = s.beOutstanding ∧ ((takeByte s).2).beEstablished = s.beEstablished ∧
    ((takeByte s).2).beStartupError = s.beStartupError ∧ ((takeByte s).2).beIn = s.beIn ∧
    ((takeByte s).2).beCancels = s.beCancels ∧ ((takeByte s).2).irqLine = s.irqLine ∧
    ((takeByte s).2).params = s.params ∧ ((takeByte s).2).faults = s.faults ∧ ((takeByte s).2).reply = s.reply ∧
    ((takeByte s).2).inputs = s.inputs ∧ ((takeByte s).2).freeCount = s.freeCount := by
  unfold takeByte; split <;> simp

@[simp] theorem takeByte_bank (s : State) (k : Locality) :
    (((takeByte s).2).bank k).state = (s.bank k).state ∧ (((takeByte s).2).bank k).access = (s.bank k).access ∧
    (((takeByte s).2).bank k).sts = (s.bank k).sts ∧ (((takeByte s).2).bank k).ifaceId = (s.bank k).ifaceId ∧
    (((takeByte s).2).bank k).inte = (s.bank k).inte ∧ (((takeByte s).2).bank k).ints = (s.bank k).ints := by
  unfold takeByte; split <;> simp

@[simp] theorem endResponse_keeps (l : Locality) (s : State) :
    (endResponse l s).activeLocty = s.activeLocty ∧ (endResponse l s).nextLocty = s.nextLocty ∧
    (endResponse l s).abortingLocty = s.abortingLocty ∧ (endResponse l s).rwOffset = s.rwOffset ∧
    (endResponse l s).beTpmVersion = s.beTpmVersion ∧ (endResponse l s).buffer = s.buffer ∧
    (endResponse l s).bufferSize = s.bufferSize ∧ (endResponse l s).cmd = s.cmd ∧
    (endResponse l s).beOutstanding = s.beOutstanding ∧ (endResponse l s).beEstablished = s.beEstablished ∧
    (endResponse l s).beStartupError = s.beStartupError ∧ (endResponse l s).beIn = s.beIn ∧
    (endResponse l s).beCancels = s.beCancels ∧ (endResponse l s).params = s.params ∧
    (endResponse l s).faults = s.faults ∧ (endResponse l s).reply = s.reply ∧ (endResponse l s).inputs = s.inputs ∧
    (endResponse l s).freeCount = s.freeCount := by
  unfold endResponse; split <;> simp

@[simp] theorem endResponse_bank (l : Locality) (s : State) (k : Locality) :
    ((endResponse l s).bank k).state = (s.bank k).state ∧ ((endResponse l s).bank k).access = (s.bank k).access ∧
    ((endResponse l s).bank k).ifaceId = (s.bank k).ifaceId ∧ ((endResponse l s).bank k).inte = (s.bank k).inte := by
  unfold endResponse; split <;> simp

@[simp] theorem readByte_keeps (l : Locality) (s : State) :
    ((readByte l s).2).activeLocty = s.activeLocty ∧ ((readByte l s).2).nextLocty = s.nextLocty ∧
    ((readByte l s).2).abortingLocty = s.abortingLocty ∧ ((readByte l s).2).beTpmVersion = s.beTpmVersion ∧
    ((readByte l s).2).buffer = s.buffer ∧ ((readByte l s).2).bufferSize = s.bufferSize ∧
    ((readByte l s).2).cmd = s.cmd ∧ ((readByte l s).2).beOutstanding = s.beOutstanding ∧
    ((readByte l s).2).beEstablished = s.beEstablished ∧ ((readByte l s).2).beStartupError = s.beStartupError ∧
    ((readByte l s).2).beIn = s.beIn ∧ ((readByte l s).2).beCancels = s.beCancels ∧
    ((readByte l s).2).params = s.params ∧ ((readByte l s).2).faults = s.faults ∧
    ((readByte l s).2).reply = s.reply ∧ ((readByte l s).2).inputs = s.inputs ∧
    ((readByte l s).2).freeCount = s.freeCount := by
  unfold readByte; split <;> simp

@[simp] theorem readByte_bank (l : Locality) (s : State) (k : Locality) :
    (((readByte l s).2).bank k).state = (s.bank k).state ∧ (((readByte l s).2).bank k).access = (s.bank k).access ∧
    (((readByte l s).2).bank k).ifaceId = (s.bank k).ifaceId ∧ (((readByte l s).2).bank k).inte = (s.bank k).inte := by
  unfold readByte; split <;> simp

@[simp] theorem readBytes_keeps (l : Locality) (n : Nat) (s : State) :
    ((readBytes l n s).2).activeLocty = s.activeLocty ∧ ((readBytes l n s).2).nextLocty = s.nextLocty ∧
    ((readBytes l n s).2).abortingLocty = s.abortingLocty ∧ ((readBytes l n s).2).beTpmVersion = s.beTpmVersion ∧
    ((readBytes l n s).2).buffer = s.buffer ∧ ((readBytes l n s).2).bufferSize = s.bufferSize ∧
    ((readBytes l n s).2).cmd = s.cmd ∧ ((readBytes l n s).2).beOutstanding = s.beOutstanding ∧
    ((readBytes l n s).2).beEstablished = s.beEstablished ∧ ((readBytes l n s).2).beStartupError = s.beStartupError ∧
    ((readBytes l n s).2).beIn = s.beIn ∧ ((readBytes l n s).2).beCancels = s.beCancels ∧
    ((readBytes l n s).2).params = s.params ∧ ((readBytes l n s).2).faults = s.faults ∧
    ((readBytes l n s).2).reply = s.reply ∧ ((readBytes l n s).2).inputs = s.inputs ∧
    ((readBytes l n s).2).freeCount = s.freeCount := by
  induction n generalizing s with
  | zero => simp [readBytes]
  | succ n ih => simp [readBytes, ih]

@[simp] theorem readBytes_bank (l : Locality) (n : Nat) (s : State) (k : Locality) :
    (((readBytes l n s).2).bank k).state = (s.bank k).state ∧
    (((readBytes l n s).2).bank k).access = (s.bank k).access ∧
    (((readBytes l n s).2).bank k).ifaceId = (s.bank k).ifaceId ∧
    (((readBytes l n s).2).bank k).inte = (s.bank k).inte := by
  induction n generalizing s with
  | zero => simp [readBytes]
  | succ n ih => simp [readBytes, ih]

@[simp] theorem fifoRead_keeps (n : Width) (lane : BitVec 2) (l : Locality) (s : State) :
    ((fifoRead n lane l s).2).activeLocty = s.activeLocty ∧ ((fifoRead n lane l s).2).nextLocty = s.nextLocty ∧
    ((fifoRead n lane l s).2).abortingLocty = s.abortingLocty ∧
    ((fifoRead n lane l s).2).beTpmVersion = s.beTpmVersion ∧ ((fifoRead n lane l s).2).buffer = s.buffer ∧
    ((fifoRead n lane l s).2).bufferSize = s.bufferSize ∧ ((fifoRead n lane l s).2).cmd = s.cmd ∧
    ((fifoRead n lane l s).2).beOutstanding = s.beOutstanding ∧
    ((fifoRead n lane l s).2).beEstablished = s.beEstablished ∧
    ((fifoRead n lane l s).2).beStartupError = s.beStartupError ∧ ((fifoRead n lane l s).2).beIn = s.beIn ∧
    ((fifoRead n lane l s).2).beCancels = s.beCancels ∧ ((fifoRead n lane l s).2).params = s.params ∧
    ((fifoRead n lane l s).2).faults = s.faults ∧ ((fifoRead n lane l s).2).reply = s.reply ∧
    ((fifoRead n lane l s).2).inputs = s.inputs ∧ ((fifoRead n lane l s).2).freeCount = s.freeCount := by
  unfold fifoRead; split <;> simp

@[simp] theorem fifoRead_bank (n : Width) (lane : BitVec 2) (l : Locality) (s : State) (k : Locality) :
    (((fifoRead n lane l s).2).bank k).state = (s.bank k).state ∧
    (((fifoRead n lane l s).2).bank k).access = (s.bank k).access ∧
    (((fifoRead n lane l s).2).bank k).ifaceId = (s.bank k).ifaceId ∧
    (((fifoRead n lane l s).2).bank k).inte = (s.bank k).inte := by
  unfold fifoRead; split <;> simp

@[simp] theorem cancelAction_keeps (l : Locality) (s : State) :
    (cancelAction l s).activeLocty = s.activeLocty ∧ (cancelAction l s).nextLocty = s.nextLocty ∧
    (cancelAction l s).abortingLocty = s.abortingLocty ∧ (cancelAction l s).rwOffset = s.rwOffset ∧
    (cancelAction l s).beTpmVersion = s.beTpmVersion ∧ (cancelAction l s).buffer = s.buffer ∧
    (cancelAction l s).bufferSize = s.bufferSize ∧ (cancelAction l s).cmd = s.cmd ∧
    (cancelAction l s).beOutstanding = s.beOutstanding ∧ (cancelAction l s).beEstablished = s.beEstablished ∧
    (cancelAction l s).beStartupError = s.beStartupError ∧ (cancelAction l s).beIn = s.beIn ∧
    (cancelAction l s).irqLine = s.irqLine ∧ (cancelAction l s).params = s.params ∧
    (cancelAction l s).faults = s.faults ∧ (cancelAction l s).reply = s.reply ∧
    (cancelAction l s).inputs = s.inputs ∧ (cancelAction l s).freeCount = s.freeCount := by
  unfold cancelAction; split <;> simp

@[simp] theorem cancelAction_bank (l : Locality) (s : State) (k : Locality) :
    ((cancelAction l s).bank k).state = (s.bank k).state ∧ ((cancelAction l s).bank k).access = (s.bank k).access ∧
    ((cancelAction l s).bank k).sts = (s.bank k).sts ∧ ((cancelAction l s).bank k).ifaceId = (s.bank k).ifaceId ∧
    ((cancelAction l s).bank k).inte = (s.bank k).inte ∧ ((cancelAction l s).bank k).ints = (s.bank k).ints := by
  unfold cancelAction; split <;> simp

@[simp] theorem resetEstAction_keeps (l : Locality) (s : State) :
    (resetEstAction l s).activeLocty = s.activeLocty ∧ (resetEstAction l s).nextLocty = s.nextLocty ∧
    (resetEstAction l s).abortingLocty = s.abortingLocty ∧ (resetEstAction l s).rwOffset = s.rwOffset ∧
    (resetEstAction l s).beTpmVersion = s.beTpmVersion ∧ (resetEstAction l s).buffer = s.buffer ∧
    (resetEstAction l s).bufferSize = s.bufferSize ∧ (resetEstAction l s).cmd = s.cmd ∧
    (resetEstAction l s).beOutstanding = s.beOutstanding ∧ (resetEstAction l s).beStartupError = s.beStartupError ∧
    (resetEstAction l s).beIn = s.beIn ∧ (resetEstAction l s).beCancels = s.beCancels ∧
    (resetEstAction l s).irqLine = s.irqLine ∧ (resetEstAction l s).params = s.params ∧
    (resetEstAction l s).faults = s.faults ∧ (resetEstAction l s).reply = s.reply ∧
    (resetEstAction l s).inputs = s.inputs ∧ (resetEstAction l s).freeCount = s.freeCount := by
  unfold resetEstAction; split <;> simp

@[simp] theorem resetEstAction_bank (l : Locality) (s : State) (k : Locality) :
    ((resetEstAction l s).bank k).state = (s.bank k).state ∧
    ((resetEstAction l s).bank k).access = (s.bank k).access ∧ ((resetEstAction l s).bank k).sts = (s.bank k).sts ∧
    ((resetEstAction l s).bank k).ifaceId = (s.bank k).ifaceId ∧
    ((resetEstAction l s).bank k).inte = (s.bank k).inte ∧ ((resetEstAction l s).bank k).ints = (s.bank k).ints := by
  unfold resetEstAction; split <;> simp

@[simp] theorem readyFromCompletion_keeps (l : Locality) (s : State) :
    (readyFromCompletion l s).activeLocty = s.activeLocty ∧ (readyFromCompletion l s).nextLocty = s.nextLocty ∧
    (readyFromCompletion l s).abortingLocty = s.abortingLocty ∧
    (readyFromCompletion l s).beTpmVersion = s.beTpmVersion ∧ (readyFromCompletion l s).buffer = s.buffer ∧
    (readyFromCompletion l s).bufferSize = s.bufferSize ∧ (readyFromCompletion l s).cmd = s.cmd ∧
    (readyFromCompletion l s).beOutstanding = s.beOutstanding ∧
    (readyFromCompletion l s).beEstablished = s.beEstablished ∧
    (readyFromCompletion l s).beStartupError = s.beStartupError ∧ (readyFromCompletion l s).beIn = s.beIn ∧
    (readyFromCompletion l s).beCancels = s.beCancels ∧ (readyFromCompletion l s).params = s.params ∧
    (readyFromCompletion l s).faults = s.faults ∧ (readyFromCompletion l s).reply = s.reply ∧
    (readyFromCompletion l s).inputs = s.inputs ∧ (readyFromCompletion l s).freeCount = s.freeCount := by
  unfold readyFromCompletion; dsimp only; split <;> simp

@[simp] theorem readyFromCompletion_bank (l : Locality) (s : State) (k : Locality) :
    ((readyFromCompletion l s).bank k).access = (s.bank k).access ∧
    ((readyFromCompletion l s).bank k).ifaceId = (s.bank k).ifaceId ∧
    ((readyFromCompletion l s).bank k).inte = (s.bank k).inte := by
  unfold readyFromCompletion; dsimp only; split <;> simp

@[simp] theorem commandReady_keeps (l : Locality) (s : State) :
    (commandReady l s).beTpmVersion = s.beTpmVersion ∧ (commandReady l s).buffer = s.buffer ∧
    (commandReady l s).bufferSize = s.bufferSize ∧ (commandReady l s).cmd = s.cmd ∧
    (commandReady l s).beOutstanding = s.beOutstanding ∧ (commandReady l s).beEstablished = s.beEstablished ∧
    (commandReady l s).beStartupError = s.beStartupError ∧ (commandReady l s).beIn = s.beIn ∧
    (commandReady l s).params = s.params ∧ (commandReady l s).faults = s.faults ∧
    (commandReady l s).reply = s.reply ∧ (commandReady l s).inputs = s.inputs ∧
    (commandReady l s).freeCount = s.freeCount := by
  unfold commandReady; split <;> simp

@[simp] theorem commandReady_bank (l : Locality) (s : State) (k : Locality) :
    ((commandReady l s).bank k).ifaceId = (s.bank k).ifaceId ∧ ((commandReady l s).bank k).inte = (s.bank k).inte := by
  unfold commandReady; split <;> simp

@[simp] theorem tpmGo_keeps (l : Locality) (s : State) :
    (tpmGo l s).activeLocty = s.activeLocty ∧ (tpmGo l s).nextLocty = s.nextLocty ∧
    (tpmGo l s).abortingLocty = s.abortingLocty ∧ (tpmGo l s).rwOffset = s.rwOffset ∧
    (tpmGo l s).beTpmVersion = s.beTpmVersion ∧ (tpmGo l s).buffer = s.buffer ∧
    (tpmGo l s).bufferSize = s.bufferSize ∧ (tpmGo l s).beEstablished = s.beEstablished ∧
    (tpmGo l s).beStartupError = s.beStartupError ∧ (tpmGo l s).beCancels = s.beCancels ∧
    (tpmGo l s).irqLine = s.irqLine ∧ (tpmGo l s).params = s.params ∧ (tpmGo l s).reply = s.reply ∧
    (tpmGo l s).inputs = s.inputs ∧ (tpmGo l s).freeCount = s.freeCount := by
  unfold tpmGo; split <;> simp

@[simp] theorem tpmGo_bank (l : Locality) (s : State) (k : Locality) :
    ((tpmGo l s).bank k).access = (s.bank k).access ∧ ((tpmGo l s).bank k).sts = (s.bank k).sts ∧
    ((tpmGo l s).bank k).ifaceId = (s.bank k).ifaceId ∧ ((tpmGo l s).bank k).inte = (s.bank k).inte ∧
    ((tpmGo l s).bank k).ints = (s.bank k).ints := by
  unfold tpmGo; split <;> simp

@[simp] theorem responseRetry_keeps (l : Locality) (s : State) :
    (responseRetry l s).activeLocty = s.activeLocty ∧ (responseRetry l s).nextLocty = s.nextLocty ∧
    (responseRetry l s).abortingLocty = s.abortingLocty ∧ (responseRetry l s).beTpmVersion = s.beTpmVersion ∧
    (responseRetry l s).buffer = s.buffer ∧ (responseRetry l s).bufferSize = s.bufferSize ∧
    (responseRetry l s).cmd = s.cmd ∧ (responseRetry l s).beOutstanding = s.beOutstanding ∧
    (responseRetry l s).beEstablished = s.beEstablished ∧ (responseRetry l s).beStartupError = s.beStartupError ∧
    (responseRetry l s).beIn = s.beIn ∧ (responseRetry l s).beCancels = s.beCancels ∧
    (responseRetry l s).irqLine = s.irqLine ∧ (responseRetry l s).params = s.params ∧
    (responseRetry l s).faults = s.faults ∧ (responseRetry l s).reply = s.reply ∧
    (responseRetry l s).inputs = s.inputs ∧ (responseRetry l s).freeCount = s.freeCount := by
  unfold responseRetry; split <;> simp

@[simp] theorem responseRetry_bank (l : Locality) (s : State) (k : Locality) :
    ((responseRetry l s).bank k).state = (s.bank k).state ∧ ((responseRetry l s).bank k).access = (s.bank k).access ∧
    ((responseRetry l s).bank k).ifaceId = (s.bank k).ifaceId ∧ ((responseRetry l s).bank k).inte = (s.bank k).inte ∧
    ((responseRetry l s).bank k).ints = (s.bank k).ints := by
  unfold responseRetry; split <;> simp

@[simp] theorem stsExtraActions_keeps (l : Locality) (wv : Word) (s : State) :
    (stsExtraActions l wv s).activeLocty = s.activeLocty ∧ (stsExtraActions l wv s).nextLocty = s.nextLocty ∧
    (stsExtraActions l wv s).abortingLocty = s.abortingLocty ∧ (stsExtraActions l wv s).rwOffset = s.rwOffset ∧
    (stsExtraActions l wv s).beTpmVersion = s.beTpmVersion ∧ (stsExtraActions l wv s).buffer = s.buffer ∧
    (stsExtraActions l wv s).bufferSize = s.bufferSize ∧ (stsExtraActions l wv s).cmd = s.cmd ∧
    (stsExtraActions l wv s).beOutstanding = s.beOutstanding ∧
    (stsExtraActions l wv s).beStartupError = s.beStartupError ∧ (stsExtraActions l wv s).beIn = s.beIn ∧
    (stsExtraActions l wv s).irqLine = s.irqLine ∧ (stsExtraActions l wv s).params = s.params ∧
    (stsExtraActions l wv s).faults = s.faults ∧ (stsExtraActions l wv s).reply = s.reply ∧
    (stsExtraActions l wv s).inputs = s.inputs ∧ (stsExtraActions l wv s).freeCount = s.freeCount := by
  unfold stsExtraActions; dsimp only; split
  · split <;> split <;> simp
  · simp

@[simp] theorem stsExtraActions_bank (l : Locality) (wv : Word) (s : State) (k : Locality) :
    ((stsExtraActions l wv s).bank k).state = (s.bank k).state ∧
    ((stsExtraActions l wv s).bank k).access = (s.bank k).access ∧
    ((stsExtraActions l wv s).bank k).sts = (s.bank k).sts ∧
    ((stsExtraActions l wv s).bank k).ifaceId = (s.bank k).ifaceId ∧
    ((stsExtraActions l wv s).bank k).inte = (s.bank k).inte ∧
    ((stsExtraActions l wv s).bank k).ints = (s.bank k).ints := by
  unfold stsExtraActions; dsimp only; split
  · split <;> split <;> simp
  · simp

@[simp] theorem stsWrite_keeps (l : Locality) (wv : Word) (s : State) :
    (stsWrite l wv s).beTpmVersion = s.beTpmVersion ∧ (stsWrite l wv s).buffer = s.buffer ∧
    (stsWrite l wv s).bufferSize = s.bufferSize ∧ (stsWrite l wv s).beStartupError = s.beStartupError ∧
    (stsWrite l wv s).params = s.params ∧ (stsWrite l wv s).reply = s.reply ∧ (stsWrite l wv s).inputs = s.inputs ∧
    (stsWrite l wv s).freeCount = s.freeCount := by
  unfold stsWrite; dsimp only; split
  · split
    · simp
    · split
      · simp
      · split <;> simp
  · simp

@[simp] theorem stsWrite_bank (l : Locality) (wv : Word) (s : State) (k : Locality) :
    ((stsWrite l wv s).bank k).ifaceId = (s.bank k).ifaceId ∧ ((stsWrite l wv s).bank k).inte = (s.bank k).inte := by
  unfold stsWrite; dsimp only; split
  · split
    · simp
    · split
      · simp
      · split <;> simp
  · simp

@[simp] theorem recordSeize_keeps (l : Locality) (s : State) :
    (recordSeize l s).activeLocty = s.activeLocty ∧ (recordSeize l s).nextLocty = s.nextLocty ∧
    (recordSeize l s).abortingLocty = s.abortingLocty ∧ (recordSeize l s).rwOffset = s.rwOffset ∧
    (recordSeize l s).beTpmVersion = s.beTpmVersion ∧ (recordSeize l s).buffer = s.buffer ∧
    (recordSeize l s).bufferSize = s.bufferSize ∧ (recordSeize l s).cmd = s.cmd ∧
    (recordSeize l s).beOutstanding = s.beOutstanding ∧ (recordSeize l s).beEstablished = s.beEstablished ∧
    (recordSeize l s).beStartupError = s.beStartupError ∧ (recordSeize l s).beIn = s.beIn ∧
    (recordSeize l s).beCancels = s.beCancels ∧ (recordSeize l s).irqLine = s.irqLine ∧
    (recordSeize l s).params = s.params ∧ (recordSeize l s).faults = s.faults ∧ (recordSeize l s).reply = s.reply ∧
    (recordSeize l s).inputs = s.inputs ∧ (recordSeize l s).freeCount = s.freeCount := by
  simp [recordSeize]

@[simp] theorem recordSeize_bank (l : Locality) (s : State) (k : Locality) :
    ((recordSeize l s).bank k).state = (s.bank k).state ∧ ((recordSeize l s).bank k).sts = (s.bank k).sts ∧
    ((recordSeize l s).bank k).ifaceId = (s.bank k).ifaceId ∧ ((recordSeize l s).bank k).inte = (s.bank k).inte ∧
    ((recordSeize l s).bank k).ints = (s.bank k).ints ∧
    ((recordSeize l s).bank k).access =
      if k = l then setBits (s.bank l).access accSeize
      else if k < l then clearBits (s.bank k).access accSeize else (s.bank k).access := by
  by_cases h : k < l
  · have : k ≠ l := ne_of_lt h
    simp [recordSeize, h, this]
  · by_cases h2 : k = l
    · subst h2; simp [recordSeize]
    · simp [recordSeize, h, h2]

@[simp] theorem accessStep2_keeps (l : Locality) (b : BitVec 8) (w : AccessWork) :
    (accessStep2 l b w).st.beTpmVersion = w.st.beTpmVersion ∧ (accessStep2 l b w).st.buffer = w.st.buffer ∧
    (accessStep2 l b w).st.bufferSize = w.st.bufferSize ∧ (accessStep2 l b w).st.cmd = w.st.cmd ∧
    (accessStep2 l b w).st.beOutstanding = w.st.beOutstanding ∧
    (accessStep2 l b w).st.beEstablished = w.st.beEstablished ∧
    (accessStep2 l b w).st.beStartupError = w.st.beStartupError ∧ (accessStep2 l b w).st.beIn = w.st.beIn ∧
    (accessStep2 l b w).st.params = w.st.params ∧ (accessStep2 l b w).st.faults = w.st.faults ∧
    (accessStep2 l b w).st.reply = w.st.reply ∧ (accessStep2 l b w).st.inputs = w.st.inputs ∧
    (accessStep2 l b w).st.freeCount = w.st.freeCount := by
  unfold accessStep2; split
  · split
    · split <;> simp
    · simp
  · simp

@[simp] theorem accessStep2_bank (l : Locality) (b : BitVec 8) (w : AccessWork) (k : Locality) :
    ((accessStep2 l b w).st.bank k).ifaceId = (w.st.bank k).ifaceId ∧
    ((accessStep2 l b w).st.bank k).inte = (w.st.bank k).inte := by
  unfold accessStep2; split
  · split
    · split <;> simp
    · simp
  · simp

@[simp] theorem accessStep3_keeps (l : Locality) (b : BitVec 8) (w : AccessWork) :
    (accessStep3 l b w).st.beTpmVersion = w.st.beTpmVersion ∧ (accessStep3 l b w).st.buffer = w.st.buffer ∧
    (accessStep3 l b w).st.bufferSize = w.st.bufferSize ∧ (accessStep3 l b w).st.cmd = w.st.cmd ∧
    (accessStep3 l b w).st.beOutstanding = w.st.beOutstanding ∧
    (accessStep3 l b w).st.beEstablished = w.st.beEstablished ∧
    (accessStep3 l b w).st.beStartupError = w.st.beStartupError ∧ (accessStep3 l b w).st.beIn = w.st.beIn ∧
    (accessStep3 l b w).st.params = w.st.params ∧ (accessStep3 l b w).st.faults = w.st.faults ∧
    (accessStep3 l b w).st.reply = w.st.reply ∧ (accessStep3 l b w).st.inputs = w.st.inputs ∧
    (accessStep3 l b w).st.freeCount = w.st.freeCount := by
  unfold accessStep3; split <;> simp

@[simp] theorem accessStep3_bank (l : Locality) (b : BitVec 8) (w : AccessWork) (k : Locality) :
    ((accessStep3 l b w).st.bank k).ifaceId = (w.st.bank k).ifaceId ∧
    ((accessStep3 l b w).st.bank k).inte = (w.st.bank k).inte := by
  unfold accessStep3; split <;> simp

@[simp] theorem accessStep4_keeps (l : Locality) (b : BitVec 8) (w : AccessWork) :
    (accessStep4 l b w).st.beTpmVersion = w.st.beTpmVersion ∧ (accessStep4 l b w).st.buffer = w.st.buffer ∧
    (accessStep4 l b w).st.bufferSize = w.st.bufferSize ∧ (accessStep4 l b w).st.cmd = w.st.cmd ∧
    (accessStep4 l b w).st.beOutstanding = w.st.beOutstanding ∧
    (accessStep4 l b w).st.beEstablished = w.st.beEstablished ∧
    (accessStep4 l b w).st.beStartupError = w.st.beStartupError ∧ (accessStep4 l b w).st.beIn = w.st.beIn ∧
    (accessStep4 l b w).st.params = w.st.params ∧ (accessStep4 l b w).st.faults = w.st.faults ∧
    (accessStep4 l b w).st.reply = w.st.reply ∧ (accessStep4 l b w).st.inputs = w.st.inputs ∧
    (accessStep4 l b w).st.freeCount = w.st.freeCount := by
  unfold accessStep4; split <;> simp

@[simp] theorem accessStep4_bank (l : Locality) (b : BitVec 8) (w : AccessWork) (k : Locality) :
    ((accessStep4 l b w).st.bank k).ifaceId = (w.st.bank k).ifaceId ∧
    ((accessStep4 l b w).st.bank k).inte = (w.st.bank k).inte := by
  unfold accessStep4; split <;> simp

@[simp] theorem accessStep5_keeps (l : Locality) (b : BitVec 8) (w : AccessWork) :
    (accessStep5 l b w).st.beTpmVersion = w.st.beTpmVersion ∧ (accessStep5 l b w).st.buffer = w.st.buffer ∧
    (accessStep5 l b w).st.bufferSize = w.st.bufferSize ∧ (accessStep5 l b w).st.cmd = w.st.cmd ∧
    (accessStep5 l b w).st.beOutstanding = w.st.beOutstanding ∧
    (accessStep5 l b w).st.beEstablished = w.st.beEstablished ∧
    (accessStep5 l b w).st.beStartupError = w.st.beStartupError ∧ (accessStep5 l b w).st.beIn = w.st.beIn ∧
    (accessStep5 l b w).st.params = w.st.params ∧ (accessStep5 l b w).st.faults = w.st.faults ∧
    (accessStep5 l b w).st.reply = w.st.reply ∧ (accessStep5 l b w).st.inputs = w.st.inputs ∧
    (accessStep5 l b w).st.freeCount = w.st.freeCount := by
  unfold accessStep5; split
  · split <;> simp
  · simp

@[simp] theorem accessStep5_bank (l : Locality) (b : BitVec 8) (w : AccessWork) (k : Locality) :
    ((accessStep5 l b w).st.bank k).ifaceId = (w.st.bank k).ifaceId ∧
    ((accessStep5 l b w).st.bank k).inte = (w.st.bank k).inte := by
  unfold accessStep5; split
  · split <;> simp
  · simp

@[simp] theorem accessFinish_keeps (w : AccessWork) :
    (accessFinish w).beTpmVersion = w.st.beTpmVersion ∧ (accessFinish w).buffer = w.st.buffer ∧
    (accessFinish w).bufferSize = w.st.bufferSize ∧ (accessFinish w).cmd = w.st.cmd ∧
    (accessFinish w).beOutstanding = w.st.beOutstanding ∧ (accessFinish w).beEstablished = w.st.beEstablished ∧
    (accessFinish w).beStartupError = w.st.beStartupError ∧ (accessFinish w).beIn = w.st.beIn ∧
    (accessFinish w).params = w.st.params ∧ (accessFinish w).faults = w.st.faults ∧
    (accessFinish w).reply = w.st.reply ∧ (accessFinish w).inputs = w.st.inputs ∧
    (accessFinish w).freeCount = w.st.freeCount := by
  unfold accessFinish; split <;> simp

@[simp] theorem accessFinish_bank (w : AccessWork) (k : Locality) :
    ((accessFinish w).bank k).state = (w.st.bank k).state ∧ ((accessFinish w).bank k).sts = (w.st.bank k).sts ∧
    ((accessFinish w).bank k).ifaceId = (w.st.bank k).ifaceId ∧ ((accessFinish w).bank k).inte = (w.st.bank k).inte := by
  unfold accessFinish; split <;> simp

@[simp] theorem accessWrite_keeps (l : Locality) (wv : Word) (s : State) :
    (accessWrite l wv s).beTpmVersion = s.beTpmVersion ∧ (accessWrite l wv s).buffer = s.buffer ∧
    (accessWrite l wv s).bufferSize = s.bufferSize ∧ (accessWrite l wv s).cmd = s.cmd ∧
    (accessWrite l wv s).beOutstanding = s.beOutstanding ∧ (accessWrite l wv s).beEstablished = s.beEstablished ∧
    (accessWrite l wv s).beStartupError = s.beStartupError ∧ (accessWrite l wv s).beIn = s.beIn ∧
    (accessWrite l wv s).params = s.params ∧ (accessWrite l wv s).faults = s.faults ∧
    (accessWrite l wv s).reply = s.reply ∧ (accessWrite l wv s).inputs = s.inputs ∧
    (accessWrite l wv s).freeCount = s.freeCount := by
  simp [accessWrite]

@[simp] theorem accessWrite_bank (l : Locality) (wv : Word) (s : State) (k : Locality) :
    ((accessWrite l wv s).bank k).ifaceId = (s.bank k).ifaceId ∧ ((accessWrite l wv s).bank k).inte = (s.bank k).inte := by
  simp [accessWrite]

@[simp] theorem intEnableWrite_keeps (l : Locality) (wv keep : Word) (s : State) :
    (intEnableWrite l wv keep s).activeLocty = s.activeLocty ∧ (intEnableWrite l wv keep s).nextLocty = s.nextLocty ∧
    (intEnableWrite l wv keep s).abortingLocty = s.abortingLocty ∧
    (intEnableWrite l wv keep s).rwOffset = s.rwOffset ∧ (intEnableWrite l wv keep s).beTpmVersion = s.beTpmVersion ∧
    (intEnableWrite l wv keep s).buffer = s.buffer ∧ (intEnableWrite l wv keep s).bufferSize = s.bufferSize ∧
    (intEnableWrite l wv keep s).cmd = s.cmd ∧ (intEnableWrite l wv keep s).beOutstanding = s.beOutstanding ∧
    (intEnableWrite l wv keep s).beEstablished = s.beEstablished ∧
    (intEnableWrite l wv keep s).beStartupError = s.beStartupError ∧ (intEnableWrite l wv keep s).beIn = s.beIn ∧
    (intEnableWrite l wv keep s).beCancels = s.beCancels ∧ (intEnableWrite l wv keep s).irqLine = s.irqLine ∧
    (intEnableWrite l wv keep s).params = s.params ∧ (intEnableWrite l wv keep s).faults = s.faults ∧
    (intEnableWrite l wv keep s).reply = s.reply ∧ (intEnableWrite l wv keep s).inputs = s.inputs ∧
    (intEnableWrite l wv keep s).freeCount = s.freeCount := by
  unfold intEnableWrite; split <;> simp

@[simp] theorem intEnableWrite_bank (l : Locality) (wv keep : Word) (s : State) (k : Locality) :
    ((intEnableWrite l wv keep s).bank k).state = (s.bank k).state ∧
    ((intEnableWrite l wv keep s).bank k).access = (s.bank k).access ∧
    ((intEnableWrite l wv keep s).bank k).sts = (s.bank k).sts ∧
    ((intEnableWrite l wv keep s).bank k).ifaceId = (s.bank k).ifaceId ∧
    ((intEnableWrite l wv keep s).bank k).ints = (s.bank k).ints := by
  unfold intEnableWrite; split <;> simp

@[simp] theorem intStatusWrite_keeps (l : Locality) (wv : Word) (s : State) :
    (intStatusWrite l wv s).activeLocty = s.activeLocty ∧ (intStatusWrite l wv s).nextLocty = s.nextLocty ∧
    (intStatusWrite l wv s).abortingLocty = s.abortingLocty ∧ (intStatusWrite l wv s).rwOffset = s.rwOffset ∧
    (intStatusWrite l wv s).beTpmVersion = s.beTpmVersion ∧ (intStatusWrite l wv s).buffer = s.buffer ∧
    (intStatusWrite l wv s).bufferSize = s.bufferSize ∧ (intStatusWrite l wv s).cmd = s.cmd ∧
    (intStatusWrite l wv s).beOutstanding = s.beOutstanding ∧
    (intStatusWrite l wv s).beEstablished = s.beEstablished ∧
    (intStatusWrite l wv s).beStartupError = s.beStartupError ∧ (intStatusWrite l wv s).beIn = s.beIn ∧
    (intStatusWrite l wv s).beCancels = s.beCancels ∧ (intStatusWrite l wv s).params = s.params ∧
    (intStatusWrite l wv s).faults = s.faults ∧ (intStatusWrite l wv s).reply = s.reply ∧
    (intStatusWrite l wv s).inputs = s.inputs ∧ (intStatusWrite l wv s).freeCount = s.freeCount := by
  unfold intStatusWrite; split <;> simp

@[simp] theorem intStatusWrite_bank (l : Locality) (wv : Word) (s : State) (k : Locality) :
    ((intStatusWrite l wv s).bank k).state = (s.bank k).state ∧
    ((intStatusWrite l wv s).bank k).access = (s.bank k).access ∧
    ((intStatusWrite l wv s).bank k).sts = (s.bank k).sts ∧
    ((intStatusWrite l wv s).bank k).ifaceId = (s.bank k).ifaceId ∧
    ((intStatusWrite l wv s).bank k).inte = (s.bank k).inte := by
  unfold intStatusWrite; split <;> simp

@[simp] theorem interfaceIdWrite_keeps (wv : Word) (s : State) :
    (interfaceIdWrite wv s).activeLocty = s.activeLocty ∧ (interfaceIdWrite wv s).nextLocty = s.nextLocty ∧
    (interfaceIdWrite wv s).abortingLocty = s.abortingLocty ∧ (interfaceIdWrite wv s).rwOffset = s.rwOffset ∧
    (interfaceIdWrite wv s).beTpmVersion = s.beTpmVersion ∧ (interfaceIdWrite wv s).buffer = s.buffer ∧
    (interfaceIdWrite wv s).bufferSize = s.bufferSize ∧ (interfaceIdWrite wv s).cmd = s.cmd ∧
    (interfaceIdWrite wv s).beOutstanding = s.beOutstanding ∧
    (interfaceIdWrite wv s).beEstablished = s.beEstablished ∧
    (interfaceIdWrite wv s).beStartupError = s.beStartupError ∧ (interfaceIdWrite wv s).beIn = s.beIn ∧
    (interfaceIdWrite wv s).beCancels = s.beCancels ∧ (interfaceIdWrite wv s).irqLine = s.irqLine ∧
    (interfaceIdWrite wv s).params = s.params ∧ (interfaceIdWrite wv s).faults = s.faults ∧
    (interfaceIdWrite wv s).reply = s.reply ∧ (interfaceIdWrite wv s).inputs = s.inputs ∧
    (interfaceIdWrite wv s).freeCount = s.freeCount := by
  unfold interfaceIdWrite; split <;> simp

@[simp] theorem interfaceIdWrite_bank (wv : Word) (s : State) (k : Locality) :
    ((interfaceIdWrite wv s).bank k).state = (s.bank k).state ∧
    ((interfaceIdWrite wv s).bank k).access = (s.bank k).access ∧
    ((interfaceIdWrite wv s).bank k).sts = (s.bank k).sts ∧ ((interfaceIdWrite wv s).bank k).inte = (s.bank k).inte ∧
    ((interfaceIdWrite wv s).bank k).ints = (s.bank k).ints := by
  unfold interfaceIdWrite; split <;> simp

@[simp] theorem markSelftest_keeps (b : Bool) (s : State) :
    (markSelftest b s).activeLocty = s.activeLocty ∧ (markSelftest b s).nextLocty = s.nextLocty ∧
    (markSelftest b s).abortingLocty = s.abortingLocty ∧ (markSelftest b s).rwOffset = s.rwOffset ∧
    (markSelftest b s).beTpmVersion = s.beTpmVersion ∧ (markSelftest b s).buffer = s.buffer ∧
    (markSelftest b s).bufferSize = s.bufferSize ∧ (markSelftest b s).cmd = s.cmd ∧
    (markSelftest b s).beOutstanding = s.beOutstanding ∧ (markSelftest b s).beEstablished = s.beEstablished ∧
    (markSelftest b s).beStartupError = s.beStartupError ∧ (markSelftest b s).beIn = s.beIn ∧
    (markSelftest b s).beCancels = s.beCancels ∧ (markSelftest b s).irqLine = s.irqLine ∧
    (markSelftest b s).params = s.params ∧ (markSelftest b s).faults = s.faults ∧
    (markSelftest b s).reply = s.reply ∧ (markSelftest b s).inputs = s.inputs ∧
    (markSelftest b s).freeCount = s.freeCount := by
  unfold markSelftest; split <;> simp

@[simp] theorem markSelftest_bank (b : Bool) (s : State) (k : Locality) :
    ((markSelftest b s).bank k).state = (s.bank k).state ∧ ((markSelftest b s).bank k).access = (s.bank k).access ∧
    ((markSelftest b s).bank k).ifaceId = (s.bank k).ifaceId ∧ ((markSelftest b s).bank k).inte = (s.bank k).inte ∧
    ((markSelftest b s).bank k).ints = (s.bank k).ints := by
  unfold markSelftest; split <;> simp

@[simp] theorem markSelftest_sts (b : Bool) (s : State) (k : Locality) :
    ((markSelftest b s).bank k).sts = if b then setBits (s.bank k).sts stsSelftestDone else (s.bank k).sts := by
  unfold markSelftest; split <;> simp

@[simp] theorem resetDevice_keeps (ver : TpmVersion) (raw : Nat) (err est : Bool) (s : State) :
    (resetDevice ver raw err est s).buffer = s.buffer ∧ (resetDevice ver raw err est s).cmd = s.cmd ∧
    (resetDevice ver raw err est s).beIn = s.beIn ∧ (resetDevice ver raw err est s).beCancels = s.beCancels ∧
    (resetDevice ver raw err est s).params = s.params ∧ (resetDevice ver raw err est s).faults = s.faults ∧
    (resetDevice ver raw err est s).reply = s.reply ∧ (resetDevice ver raw err est s).inputs = s.inputs ∧
    (resetDevice ver raw err est s).freeCount = s.freeCount := by
  simp [resetDevice]

@[simp] theorem completeCommand_keeps (resp : List Byte) (st est : Bool) (s : State) :
    (completeCommand resp st est s).beTpmVersion = s.beTpmVersion ∧
    (completeCommand resp st est s).bufferSize = s.bufferSize ∧ (completeCommand resp st est s).cmd = s.cmd ∧
    (completeCommand resp st est s).beStartupError = s.beStartupError ∧
    (completeCommand resp st est s).beIn = s.beIn ∧ (completeCommand resp st est s).beCancels = s.beCancels ∧
    (completeCommand resp st est s).params = s.params ∧ (completeCommand resp st est s).faults = s.faults ∧
    (completeCommand resp st est s).reply = s.reply ∧ (completeCommand resp st est s).inputs = s.inputs ∧
    (completeCommand resp st est s).freeCount = s.freeCount := by
  unfold completeCommand; dsimp only; split <;> simp

@[simp] theorem completeCommand_bank (resp : List Byte) (st est : Bool) (s : State) (k : Locality) :
    ((completeCommand resp st est s).bank k).ifaceId = (s.bank k).ifaceId ∧
    ((completeCommand resp st est s).bank k).inte = (s.bank k).inte := by
  unfold completeCommand; dsimp only; split <;> simp

end Sys2Proof.Machine
end

