-- ==== Sys2Proof/Laws/PerInstr.lean ====
section
/-! SUPPORT. One law per instruction: the word the encoder writes for a well-formed instruction is a word of that
instruction's row of the opcode table (spec/30_encoding.md R104): the row's mnemonic, match and mask. -/

namespace Sys2Proof.Laws

/-- The mask of a register row keeps W and REG. -/
theorem register_mask (a : BitVec 2) (b : BitVec 1) (c : BitVec 3) (d : BitVec 10) (e : BitVec 2) :
    twOf a b c d e &&& 0x08FFC#18 = twOf 0#2 b 0#3 d 0#2 := by
  rw [show (0x08FFC#18) = twOf 0#2 1#1 0#3 0x3FF#10 0#2 by decide, twOf_and]
  congr 1
  · exact BitVec.and_zero
  · revert b; decide
  · exact BitVec.and_zero
  · exact BitVec.and_allOnes
  · exact BitVec.and_zero

/-- The mask of the DATA_XFIFO rows keeps W and REG[9:4]. -/
theorem xfifo_mask (a : BitVec 2) (b : BitVec 1) (c : BitVec 3) (d : BitVec 4) (e : BitVec 2) :
    twOf a b c (xfifoReg d) e &&& 0x08FC0#18 = twOf 0#2 b 0#3 0x020#10 0#2 := by
  rw [show (0x08FC0#18) = twOf 0#2 1#1 0#3 0x3F0#10 0#2 by decide, twOf_and]
  congr 1
  · exact BitVec.and_zero
  · revert b; decide
  · exact BitVec.and_zero
  · revert d; decide
  · exact BitVec.and_zero

/-- The mask of the unlisted rows keeps W. -/
theorem direction_mask (a : BitVec 2) (b : BitVec 1) (c : BitVec 3) (d : BitVec 10) (e : BitVec 2) :
    twOf a b c d e &&& 0x08000#18 = twOf 0#2 b 0#3 0#10 0#2 := by
  rw [show (0x08000#18) = twOf 0#2 1#1 0#3 0#10 0#2 by decide, twOf_and]
  congr 1
  · exact BitVec.and_zero
  · revert b; decide
  · exact BitVec.and_zero
  · exact BitVec.and_zero
  · exact BitVec.and_zero

/-- The mask of WR_LOCALITY4 keeps W and LOC. -/
theorem page_mask (a : BitVec 2) (b : BitVec 1) (c : BitVec 3) (d : BitVec 10) (e : BitVec 2) :
    twOf a b c d e &&& 0x0F000#18 = twOf 0#2 b c 0#10 0#2 := by
  rw [show (0x0F000#18) = twOf 0#2 1#1 0b111#3 0#10 0#2 by decide, twOf_and]
  congr 1
  · exact BitVec.and_zero
  · revert b; decide
  · revert c; decide
  · exact BitVec.and_zero
  · exact BitVec.and_zero

/-- The mask of REFUSED_WIDTH keeps SZ. -/
theorem width_mask (a : BitVec 2) (b : BitVec 1) (c : BitVec 3) (d : BitVec 10) (e : BitVec 2) :
    twOf a b c d e &&& 0x30000#18 = twOf a 0#1 0#3 0#10 0#2 := by
  rw [show (0x30000#18) = twOf 0b11#2 0#1 0#3 0#10 0#2 by decide, twOf_and]
  congr 1
  · revert a; decide
  · exact BitVec.and_zero
  · exact BitVec.and_zero
  · exact BitVec.and_zero
  · exact BitVec.and_zero

namespace RowMatch

/-- The encoder's word for a well-formed instruction lies in the instruction's own row. -/
def Statement (i : Instr) : Prop :=
  i.wf = true →
  match encode i with
  | .bus tw _ => ∃ r ∈ opcodeRows, r.mnemonic = i.mnemonic ∧ r.applies tw = true
  | .completion _ _ _ _ => i.mnemonic = "COMPLETE"
  | .platformReset _ _ _ _ => i.mnemonic = "RESET"

theorem refusedWidth (w : Bool) (loc : BitVec 3) (reg : BitVec 10) (lane : BitVec 2) (v : Word) :
    Statement (.refusedWidth w loc reg lane v) := fun _ =>
  ⟨⟨"REFUSED_WIDTH", 0x30000#18, 0x30000#18⟩, by decide, rfl, beq_iff_eq.mpr (width_mask _ _ _ _ _)⟩

theorem wrLocality4 (n : Width) (reg : BitVec 10) (lane : BitVec 2) (v : Word) :
    Statement (.wrLocality4 n reg lane v) := fun _ =>
  ⟨⟨"WR_LOCALITY4", 0x0C000#18, 0x0F000#18⟩, by decide, rfl, beq_iff_eq.mpr (page_mask _ _ _ _ _)⟩

theorem rdAccess (n : Width) (loc : BitVec 3) (lane : BitVec 2) :
    Statement (.rdAccess n loc lane) := fun _ =>
  ⟨⟨"RD_ACCESS", 0x00000#18, 0x08FFC#18⟩, by decide, rfl, beq_iff_eq.mpr (register_mask _ _ _ _ _)⟩

theorem wrAccess (n : Width) (loc : BitVec 3) (lane : BitVec 2) (v : Word) :
    Statement (.wrAccess n loc lane v) := fun _ =>
  ⟨⟨"WR_ACCESS", 0x08000#18, 0x08FFC#18⟩, by decide, rfl, beq_iff_eq.mpr (register_mask _ _ _ _ _)⟩

theorem rdIntEnable (n : Width) (loc : BitVec 3) (lane : BitVec 2) :
    Statement (.rdIntEnable n loc lane) := fun _ =>
  ⟨⟨"RD_INT_ENABLE", 0x00008#18, 0x08FFC#18⟩, by decide, rfl, beq_iff_eq.mpr (register_mask _ _ _ _ _)⟩

theorem wrIntEnable (n : Width) (loc : BitVec 3) (lane : BitVec 2) (v : Word) :
    Statement (.wrIntEnable n loc lane v) := fun _ =>
  ⟨⟨"WR_INT_ENABLE", 0x08008#18, 0x08FFC#18⟩, by decide, rfl, beq_iff_eq.mpr (register_mask _ _ _ _ _)⟩

theorem rdIntVector (n : Width) (loc : BitVec 3) (lane : BitVec 2) :
    Statement (.rdIntVector n loc lane) := fun _ =>
  ⟨⟨"RD_INT_VECTOR", 0x0000C#18, 0x08FFC#18⟩, by decide, rfl, beq_iff_eq.mpr (register_mask _ _ _ _ _)⟩

theorem wrIntVector (n : Width) (loc : BitVec 3) (lane : BitVec 2) (v : Word) :
    Statement (.wrIntVector n loc lane v) := fun _ =>
  ⟨⟨"WR_INT_VECTOR", 0x0800C#18, 0x08FFC#18⟩, by decide, rfl, beq_iff_eq.mpr (register_mask _ _ _ _ _)⟩

theorem rdIntStatus (n : Width) (loc : BitVec 3) (lane : BitVec 2) :
    Statement (.rdIntStatus n loc lane) := fun _ =>
  ⟨⟨"RD_INT_STATUS", 0x00010#18, 0x08FFC#18⟩, by decide, rfl, beq_iff_eq.mpr (register_mask _ _ _ _ _)⟩

theorem wrIntStatus (n : Width) (loc : BitVec 3) (lane : BitVec 2) (v : Word) :
    Statement (.wrIntStatus n loc lane v) := fun _ =>
  ⟨⟨"WR_INT_STATUS", 0x08010#18, 0x08FFC#18⟩, by decide, rfl, beq_iff_eq.mpr (register_mask _ _ _ _ _)⟩

theorem rdIntfCapability (n : Width) (loc : BitVec 3) (lane : BitVec 2) :
    Statement (.rdIntfCapability n loc lane) := fun _ =>
  ⟨⟨"RD_INTF_CAPABILITY", 0x00014#18, 0x08FFC#18⟩, by decide, rfl, beq_iff_eq.mpr (register_mask _ _ _ _ _)⟩

theorem wrIntfCapability (n : Width) (loc : BitVec 3) (lane : BitVec 2) (v : Word) :
    Statement (.wrIntfCapability n loc lane v) := fun _ =>
  ⟨⟨"WR_INTF_CAPABILITY", 0x08014#18, 0x08FFC#18⟩, by decide, rfl, beq_iff_eq.mpr (register_mask _ _ _ _ _)⟩

theorem rdSts (n : Width) (loc : BitVec 3) (lane : BitVec 2) :
    Statement (.rdSts n loc lane) := fun _ =>
  ⟨⟨"RD_STS", 0x00018#18, 0x08FFC#18⟩, by decide, rfl, beq_iff_eq.mpr (register_mask _ _ _ _ _)⟩

theorem wrSts (n : Width) (loc : BitVec 3) (lane : BitVec 2) (v : Word) :
    Statement (.wrSts n loc lane v) := fun _ =>
  ⟨⟨"WR_STS", 0x08018#18, 0x08FFC#18⟩, by decide, rfl, beq_iff_eq.mpr (register_mask _ _ _ _ _)⟩

theorem rdDataFifo (n : Width) (loc : BitVec 3) (lane : BitVec 2) :
    Statement (.rdDataFifo n loc lane) := fun _ =>
  ⟨⟨"RD_DATA_FIFO", 0x00024#18, 0x08FFC#18⟩, by decide, rfl, beq_iff_eq.mpr (register_mask _ _ _ _ _)⟩

theorem wrDataFifo (n : Width) (loc : BitVec 3) (lane : BitVec 2) (v : Word) :
    Statement (.wrDataFifo n loc lane v) := fun _ =>
  ⟨⟨"WR_DATA_FIFO", 0x08024#18, 0x08FFC#18⟩, by decide, rfl, beq_iff_eq.mpr (register_mask _ _ _ _ _)⟩

theorem rdInterfaceId (n : Width) (loc : BitVec 3) (lane : BitVec 2) :
    Statement (.rdInterfaceId n loc lane) := fun _ =>
  ⟨⟨"RD_INTERFACE_ID", 0x00030#18, 0x08FFC#18⟩, by decide, rfl, beq_iff_eq.mpr (register_mask _ _ _ _ _)⟩

theorem wrInterfaceId (n : Width) (loc : BitVec 3) (lane : BitVec 2) (v : Word) :
    Statement (.wrInterfaceId n loc lane v) := fun _ =>
  ⟨⟨"WR_INTERFACE_ID", 0x08030#18, 0x08FFC#18⟩, by decide, rfl, beq_iff_eq.mpr (register_mask _ _ _ _ _)⟩

theorem rdDataXfifo (n : Width) (loc : BitVec 3) (dword : BitVec 4) (lane : BitVec 2) :
    Statement (.rdDataXfifo n loc dword lane) := fun _ =>
  ⟨⟨"RD_DATA_XFIFO", 0x00080#18, 0x08FC0#18⟩, by decide, rfl, beq_iff_eq.mpr (xfifo_mask _ _ _ _ _)⟩

theorem wrDataXfifo (n : Width) (loc : BitVec 3) (dword : BitVec 4) (lane : BitVec 2) (v : Word) :
    Statement (.wrDataXfifo n loc dword lane v) := fun _ =>
  ⟨⟨"WR_DATA_XFIFO", 0x08080#18, 0x08FC0#18⟩, by decide, rfl, beq_iff_eq.mpr (xfifo_mask _ _ _ _ _)⟩

theorem rdDidVid (n : Width) (loc : BitVec 3) (lane : BitVec 2) :
    Statement (.rdDidVid n loc lane) := fun _ =>
  ⟨⟨"RD_DID_VID", 0x00F00#18, 0x08FFC#18⟩, by decide, rfl, beq_iff_eq.mpr (register_mask _ _ _ _ _)⟩

theorem wrDidVid (n : Width) (loc : BitVec 3) (lane : BitVec 2) (v : Word) :
    Statement (.wrDidVid n loc lane v) := fun _ =>
  ⟨⟨"WR_DID_VID", 0x08F00#18, 0x08FFC#18⟩, by decide, rfl, beq_iff_eq.mpr (register_mask _ _ _ _ _)⟩

theorem rdRid (n : Width) (loc : BitVec 3) (lane : BitVec 2) :
    Statement (.rdRid n loc lane) := fun _ =>
  ⟨⟨"RD_RID", 0x00F04#18, 0x08FFC#18⟩, by decide, rfl, beq_iff_eq.mpr (register_mask _ _ _ _ _)⟩

theorem wrRid (n : Width) (loc : BitVec 3) (lane : BitVec 2) (v : Word) :
    Statement (.wrRid n loc lane v) := fun _ =>
  ⟨⟨"WR_RID", 0x08F04#18, 0x08FFC#18⟩, by decide, rfl, beq_iff_eq.mpr (register_mask _ _ _ _ _)⟩

theorem rdUnmapped (n : Width) (loc : BitVec 3) (reg : BitVec 10) (lane : BitVec 2) :
    Statement (.rdUnmapped n loc reg lane) := fun _ =>
  ⟨⟨"RD_UNMAPPED", 0x00000#18, 0x08000#18⟩, by decide, rfl, beq_iff_eq.mpr (direction_mask _ _ _ _ _)⟩

theorem wrUnmapped (n : Width) (loc : BitVec 3) (reg : BitVec 10) (lane : BitVec 2) (v : Word) :
    Statement (.wrUnmapped n loc reg lane v) := fun _ =>
  ⟨⟨"WR_UNMAPPED", 0x08000#18, 0x08000#18⟩, by decide, rfl, beq_iff_eq.mpr (direction_mask _ _ _ _ _)⟩

theorem complete (resp : List Byte) (selftest : Bool) (ret : Int) (est : Bool) :
    Statement (.complete resp selftest ret est) := fun _ => rfl

theorem reset (ver : TpmVersion) (raw : Nat) (err : Bool) (est : Bool) :
    Statement (.reset ver raw err est) := fun _ => rfl

end RowMatch

end Sys2Proof.Laws
end

