-- ==== Sys2Proof/Tests/Slice0.lean ====
section
/-! SUPPORT. The model's own tests: ill-formed terms are refused, a word of every row decodes, one step of every instruction,
and for every obligation with hypotheses a state and operands that meet them. Expected results are those of
spec/95_test_vectors.md or of the example of the rule named. -/

namespace Sys2Proof.Tests

open Sys2Proof.Machine

/-! ## Well-formedness: one ill-formed term for each check -/

theorem test_wf_refuses_write_page4 : (Instr.wrAccess .one 4#3 0#2 0x02#32).wf = false := by decide
theorem test_wf_refuses_status_write_page4 : (Instr.wrSts .four 4#3 0#2 0x40#32).wf = false := by decide
theorem test_wf_refuses_alias_write_page4 : (Instr.wrDataXfifo .one 4#3 15#4 0#2 0x80#32).wf = false := by decide
theorem test_wf_refuses_unmapped_write_page4 : (Instr.wrUnmapped .one 4#3 0x001#10 0#2 0#32).wf = false := by decide
theorem test_wf_refuses_listed_unmapped_read : (Instr.rdUnmapped .four 0#3 0x3C1#10 0#2).wf = false := by decide
theorem test_wf_refuses_alias_unmapped_write : (Instr.wrUnmapped .four 0#3 0x02F#10 0#2 0#32).wf = false := by decide
theorem test_wf_refuses_long_response : (Instr.complete (List.replicate 4097 0#8) false 0 false).wf = false := by
  simp only [Instr.wf, List.length_replicate]; decide
theorem test_wf_refuses_zero_buffer : (Instr.reset .v2_0 0 false false).wf = false := by decide
theorem test_wf_admits_longest_response : (Instr.complete (List.replicate 4096 0#8) false 0 false).wf = true := by
  simp only [Instr.wf, List.length_replicate]; decide

/-! ## Decoding: one word of every row, written from SZ, W, LOC, REG, LANE (spec/30_encoding.md R91, R94) -/

theorem test_decode_refusedWidth : decode (.bus 0b11_1_010_0000000110_01#18 7#32) =
    .ok (.refusedWidth true 2#3 6#10 1#2 7#32) := by rfl
theorem test_decode_wrLocality4 : decode (.bus 0b00_1_100_0000000000_00#18 2#32) =
    .ok (.wrLocality4 .one 0#10 0#2 2#32) := by rfl
theorem test_decode_rdAccess : decode (.bus 0b00_0_100_0000000000_00#18 0#32) = .ok (.rdAccess .one 4#3 0#2) := by rfl
theorem test_decode_wrAccess : decode (.bus 0b00_1_010_0000000000_00#18 8#32) =
    .ok (.wrAccess .one 2#3 0#2 8#32) := by rfl
theorem test_decode_rdIntEnable : decode (.bus 0b10_0_011_0000000010_00#18 0#32) =
    .ok (.rdIntEnable .four 3#3 0#2) := by rfl
theorem test_decode_wrIntEnable : decode (.bus 0b00_1_000_0000000010_11#18 0#32) =
    .ok (.wrIntEnable .one 0#3 3#2 0#32) := by rfl
theorem test_decode_rdIntVector : decode (.bus 0b00_0_010_0000000011_00#18 0#32) =
    .ok (.rdIntVector .one 2#3 0#2) := by rfl
theorem test_decode_wrIntVector : decode (.bus 0b00_1_000_0000000011_00#18 10#32) =
    .ok (.wrIntVector .one 0#3 0#2 10#32) := by rfl
theorem test_decode_rdIntStatus : decode (.bus 0b10_0_000_0000000100_00#18 0#32) =
    .ok (.rdIntStatus .four 0#3 0#2) := by rfl
theorem test_decode_wrIntStatus : decode (.bus 0b10_1_000_0000000100_00#18 0x80#32) =
    .ok (.wrIntStatus .four 0#3 0#2 0x80#32) := by rfl
theorem test_decode_rdIntfCapability : decode (.bus 0b10_0_001_0000000101_00#18 0#32) =
    .ok (.rdIntfCapability .four 1#3 0#2) := by rfl
theorem test_decode_wrIntfCapability : decode (.bus 0b10_1_000_0000000101_00#18 0#32) =
    .ok (.wrIntfCapability .four 0#3 0#2 0#32) := by rfl
theorem test_decode_rdSts : decode (.bus 0b00_0_000_0000000110_01#18 0#32) = .ok (.rdSts .one 0#3 1#2) := by rfl
theorem test_decode_wrSts : decode (.bus 0b10_1_000_0000000110_00#18 0x01000000#32) =
    .ok (.wrSts .four 0#3 0#2 0x01000000#32) := by rfl
theorem test_decode_rdDataFifo : decode (.bus 0b10_0_000_0000001001_00#18 0#32) =
    .ok (.rdDataFifo .four 0#3 0#2) := by rfl
theorem test_decode_wrDataFifo : decode (.bus 0b00_1_000_0000001001_00#18 0x80#32) =
    .ok (.wrDataFifo .one 0#3 0#2 0x80#32) := by rfl
theorem test_decode_rdInterfaceId : decode (.bus 0b10_0_011_0000001100_00#18 0#32) =
    .ok (.rdInterfaceId .four 3#3 0#2) := by rfl
theorem test_decode_wrInterfaceId : decode (.bus 0b00_1_001_0000001100_10#18 8#32) =
    .ok (.wrInterfaceId .one 1#3 2#2 8#32) := by rfl
theorem test_decode_rdDataXfifo : decode (.bus 0b01_0_000_0000100000_00#18 0#32) =
    .ok (.rdDataXfifo .two 0#3 0#4 0#2) := by rfl
theorem test_decode_wrDataXfifo : decode (.bus 0b10_1_000_0000101111_01#18 0x04030201#32) =
    .ok (.wrDataXfifo .four 0#3 15#4 1#2 0x04030201#32) := by rfl
theorem test_decode_rdDidVid : decode (.bus 0b01_0_000_1111000000_10#18 0#32) = .ok (.rdDidVid .two 0#3 2#2) := by rfl
theorem test_decode_wrDidVid : decode (.bus 0b10_1_000_1111000000_00#18 0#32) =
    .ok (.wrDidVid .four 0#3 0#2 0#32) := by rfl
theorem test_decode_rdRid : decode (.bus 0b00_0_100_1111000001_00#18 0#32) = .ok (.rdRid .one 4#3 0#2) := by rfl
theorem test_decode_wrRid : decode (.bus 0b00_1_000_1111000001_00#18 0#32) = .ok (.wrRid .one 0#3 0#2 0#32) := by rfl
theorem test_decode_rdUnmapped : decode (.bus 0b10_0_000_0000000001_00#18 0#32) =
    .ok (.rdUnmapped .four 0#3 1#10 0#2) := by rfl
theorem test_decode_wrUnmapped : decode (.bus 0b10_1_001_0000110000_00#18 0x12345678#32) =
    .ok (.wrUnmapped .four 1#3 0x030#10 0#2 0x12345678#32) := by rfl
theorem test_decode_complete : decode (.completion [0x80#8, 0x01#8] true (-1) false) =
    .ok (.complete [0x80#8, 0x01#8] true (-1) false) := by rfl
theorem test_decode_reset : decode (.platformReset .v1_2 1 true false) = .ok (.reset .v1_2 1 true false) := by rfl
theorem test_decode_rejects_zero_buffer : decode (.platformReset .v1_2 0 true false) = .error .zeroBufferSize := by rfl
theorem test_encode_wrSts : encode (.wrSts .one 3#3 3#2 2#32) = .bus 0x0B01B#18 2#32 := by decide

/-! ## States: Z0 of spec/95_test_vectors.md with IRQ_NUM = 5, and a locality of it set by hand -/

/-- Z0 with a chosen version. -/
def zero (ver : TpmVersion) : State :=
  State.powerOn
    { params := { base := 0xFED40000, irqNum := 5#4, irqLineAtReset := .deasserted },
      bufferInit := [], ver := ver, raw := 4096, err := false, est := false }

/-- Z0 itself. -/
def z0 : State := zero .v2_0

/-- Z0 with locality l in a state, its status flags set, and the cursor at a place. -/
def placed (l : Locality) (x : LocState) (flags : Word) (cursor : BitVec 16) : State :=
  { (z0.setLocState l x).setStsStore l (0x04000000#32 ||| flags) with rwOffset := cursor }

/-- The state with locality l the owner. -/
def owning (l : Locality) (s : State) : State := { s.setAccess l 0xA0#8 with activeLocty := some l }

/-- The state with every interrupt of locality l enabled. -/
def enabled (l : Locality) (s : State) : State := s.setInte l 0x8000008F#32

/-- The state with a command of locality l outstanding. -/
def outstanding (l : Locality) (s : State) : State :=
  { s with beOutstanding := true, cmd := { locty := l, inLen := 0#16, outCap := 4096 } }

/-- A ten-byte response in the buffer: 80 01 00 00 00 0A 00 00 00 00. -/
def withResponse (s : State) : State :=
  { s with buffer := Memory.ofBytes [0x80#8, 0x01#8, 0#8, 0#8, 0#8, 0x0A#8, 0#8, 0#8, 0#8, 0#8] }

/-- What an instruction's next state holds; none if it stops. -/
def after {α : Type} (i : Instr) (s : State) (f : State → α) : Option α :=
  match exec i s with
  | .next t => some (f t)
  | .fault _ => none
  | .refused _ => none

/-! ## One step of every instruction -/

/-- R92, R333: the fault is recorded, the owner stays. -/
theorem test_refusedWidth : after (.refusedWidth true 0#3 0#10 0#2 2#32) z0 (fun t => (t.faults.refusedWidth, t.activeLocty)) =
    some (true, none) := by decide
/-- R123: `WR1 4:000, 0x02` leaves active_locty and loc[4].access. -/
theorem test_wrLocality4 : after (.wrLocality4 .one 0#10 0#2 2#32) z0 (fun t => (t.activeLocty, (t.bank 4).access)) =
    some (none, 0x80#8) := by decide
/-- R140 after S1: 0xA1. -/
theorem test_rdAccess : after (.rdAccess .one 0#3 0#2) (owning 0 z0) State.reply = some (.device .one 0xA1#32) := by decide
/-- R140: PENDING_REQUEST is another locality's request, SEIZE is hidden. -/
theorem test_rdAccess_pending : after (.rdAccess .one 0#3 0#2)
    ((z0.setAccess 0 0x88#8).setAccess 1 0x82#8) State.reply = some (.device .one 0x85#32) := by decide
/-- E1: the request takes the free interface. -/
theorem test_wrAccess_request : after (.wrAccess .one 0#3 0#2 2#32) z0 (fun t => (t.activeLocty, (t.bank 0).access)) =
    some (some 0, 0xA0#8) := by decide
/-- E2: the seize. -/
theorem test_wrAccess_seize : after (.wrAccess .one 2#3 0#2 8#32) (owning 0 z0)
    (fun t => (t.activeLocty, (t.bank 0).access, (t.bank 2).access, t.beCancels)) =
    some (some 2, 0x90#8, 0xA0#8, 0) := by decide
/-- R250: 0x00000008 after reset. -/
theorem test_rdIntEnable : after (.rdIntEnable .four 3#3 0#2) z0 State.reply = some (.device .four 8#32) := by decide
/-- R251: `WR4 0:008, 0x8000008F`. -/
theorem test_wrIntEnable : after (.wrIntEnable .four 0#3 0#2 0x8000008F#32) (owning 0 z0) (fun t => (t.bank 0).inte) =
    some 0x8000008F#32 := by decide
/-- R251: then `WR1 0:00B, 0x00`. -/
theorem test_wrIntEnable_lane3 : after (.wrIntEnable .one 0#3 3#2 0#32) (enabled 0 (owning 0 z0))
    (fun t => (t.bank 0).inte) = some 0x0000008F#32 := by decide
/-- R254 with IRQ_NUM = 5. -/
theorem test_rdIntVector : after (.rdIntVector .one 2#3 0#2) z0 State.reply = some (.device .one 5#32) := by decide
/-- R255. -/
theorem test_wrIntVector : after (.wrIntVector .one 0#3 0#2 10#32) z0 (fun t => t.params.irqNum) = some 5#4 := by decide
/-- R252 after COMMAND_READY: 0x80. -/
theorem test_rdIntStatus : after (.rdIntStatus .four 0#3 0#2) (z0.setInts 0 0x80#32) State.reply =
    some (.device .four 0x80#32) := by decide
/-- R253: `WR4 0:010, 0x80` lowers the line, though locality 1 has bits set. -/
theorem test_wrIntStatus : after (.wrIntStatus .four 0#3 0#2 0x80#32)
    { ((owning 0 z0).setInts 0 0x80#32).setInts 1 0x04#32 with irqLine := true } (fun t => ((t.bank 0).ints, t.irqLine)) =
    some (0#32, false) := by decide
/-- R253: some but not all bits cleared leaves the line. -/
theorem test_wrIntStatus_some : after (.wrIntStatus .four 0#3 0#2 0x01#32)
    { (owning 0 z0).setInts 0 0x03#32 with irqLine := true } (fun t => ((t.bank 0).ints, t.irqLine)) =
    some (2#32, true) := by decide
/-- R353: 0x30000697 on 2.0. -/
theorem test_rdIntfCapability : after (.rdIntfCapability .four 1#3 0#2) z0 State.reply =
    some (.device .four 0x30000697#32) := by decide
/-- R353: 0x20000697 on 1.2. -/
theorem test_rdIntfCapability_v1_2 : after (.rdIntfCapability .four 1#3 0#2) (zero .v1_2) State.reply =
    some (.device .four 0x20000697#32) := by decide
/-- R272. -/
theorem test_wrIntfCapability : after (.wrIntfCapability .four 0#3 0#2 0#32) z0 (fun t => intfCapability t.beTpmVersion) =
    some 0x30000697#32 := by decide
/-- R200: `RD4 0:018 -> 0x04100000`. -/
theorem test_rdSts : after (.rdSts .four 0#3 0#2) (owning 0 z0) State.reply = some (.device .four 0x04100000#32) := by decide
/-- R202: `RD1 0:019 -> 0xFF`. -/
theorem test_rdSts_byte : after (.rdSts .one 0#3 1#2) (owning 0 z0) State.reply = some (.device .one 0xFF#32) := by decide
/-- E3 step 1: COMMAND_READY from IDLE. -/
theorem test_wrSts_ready : after (.wrSts .one 0#3 0#2 0x40#32) (enabled 0 (owning 0 z0))
    (fun t => ((t.bank 0).state, (t.bank 0).sts, (t.bank 0).ints, t.irqLine)) =
    some (.ready, 0x04000040#32, 0x80#32, true) := by decide
/-- R207: TPM_GO submits in_len = rw_offset. -/
theorem test_wrSts_go : after (.wrSts .one 0#3 0#2 0x20#32) (owning 0 (placed 0 .reception 0x80#32 12#16))
    (fun t => ((t.bank 0).state, t.cmd.inLen, t.cmd.outCap, t.beOutstanding, t.faults.backendBusy)) =
    some (.execution, 12#16, 4096, true, false) := by decide
/-- R178 (S3): `RD4 0:024 -> 0x00000180`, rw_offset 4. -/
theorem test_rdDataFifo : after (.rdDataFifo .four 0#3 0#2)
    (withResponse (owning 0 (placed 0 .completion 0x90#32 0#16))) (fun t => (t.reply, t.rwOffset)) =
    some (.device .four 0x00000180#32, 4#16) := by decide
/-- R180: `RD4 1:025 -> 0x00FFFFFF` while locality 0 is active. -/
theorem test_rdDataFifo_other : after (.rdDataFifo .four 1#3 1#2) (owning 0 z0) State.reply =
    some (.device .four 0x00FFFFFF#32) := by decide
/-- E3 step 2: the first byte moves READY to RECEPTION. -/
theorem test_wrDataFifo : after (.wrDataFifo .one 0#3 0#2 0x80#32) (owning 0 (placed 0 .ready 0x40#32 0#16))
    (fun t => ((t.bank 0).state, (t.bank 0).sts, Memory.read t.buffer 0, t.rwOffset)) =
    some (.reception, 0x04000088#32, 0x80#8, 1#16) := by decide
/-- R175: a size field equal to rw_offset completes the packet at the sixth byte; the rest of the word is dropped. -/
theorem test_wrDataFifo_complete : after (.wrDataFifo .four 0#3 0#2 0xEEEE0600#32)
    (owning 0 (placed 0 .reception 0x88#32 4#16)) (fun t => ((t.bank 0).sts, t.rwOffset)) =
    some (0x04000080#32, 6#16) := by decide
/-- R273: `RD4 0:030 -> 0x00002100`. -/
theorem test_rdInterfaceId : after (.rdInterfaceId .four 0#3 0#2) z0 State.reply =
    some (.device .four 0x00002100#32) := by decide
/-- R275: `WR4 1:030, 0x00080000` shows in locality 3. -/
theorem test_wrInterfaceId : after (.wrInterfaceId .four 1#3 0#2 0x00080000#32) z0 (fun t => (t.bank 3).ifaceId) =
    some 0x00082100#32 := by decide
/-- R178: the alias reads the same port. -/
theorem test_rdDataXfifo : after (.rdDataXfifo .two 0#3 15#4 0#2)
    (withResponse (owning 0 (placed 0 .completion 0x90#32 0#16))) (fun t => (t.reply, t.rwOffset)) =
    some (.device .two 0x0180#32, 2#16) := by decide
/-- R98, R183: a 4-byte write at 0x0BD is clamped to 3 bytes, lowest first. -/
theorem test_wrDataXfifo : after (.wrDataXfifo .four 0#3 15#4 1#2 0x04030201#32) (owning 0 (placed 0 .ready 0x40#32 0#16))
    (fun t => (Memory.readFirst t.buffer 4, t.rwOffset)) = some ([1#8, 2#8, 3#8, 0#8], 3#16) := by decide
/-- F9: two of four bytes are stored, the third overflows, the fourth is dropped. -/
theorem test_wrDataXfifo_overflow : after (.wrDataXfifo .four 0#3 0#4 0#2 0x44332211#32)
    { owning 0 (placed 0 .reception 0x88#32 6#16) with
      bufferSize := 8, buffer := Memory.ofBytes [0x80#8, 0x01#8, 0#8, 0#8, 0#8, 0x10#8] }
    (fun t => ((t.bank 0).sts, t.rwOffset, Memory.readFirst t.buffer 9)) =
    some (0x04000080#32, 8#16, [0x80#8, 0x01#8, 0#8, 0#8, 0#8, 0x10#8, 0x11#8, 0x22#8, 0#8]) := by decide
/-- F10: a read across the end returns the last bytes and 0xFF, and ends the response. -/
theorem test_rdDataXfifo_end : after (.rdDataXfifo .four 0#3 0#4 0#2)
    (withResponse (owning 0 (placed 0 .completion 0x90#32 8#16))) (fun t => (t.reply, (t.bank 0).sts, t.rwOffset)) =
    some (.device .four 0xFFFF0000#32, 0x04000080#32, 10#16) := by decide
/-- R276: `RD2 l:F02 -> 0x0001`. -/
theorem test_rdDidVid : after (.rdDidVid .two 0#3 2#2) z0 State.reply = some (.device .two 1#32) := by decide
/-- R278. -/
theorem test_wrDidVid : after (.wrDidVid .four 0#3 0#2 0#32) z0 State.reply = some .none := by decide
/-- R277: `RD1 4:F04 -> 0x01`. -/
theorem test_rdRid : after (.rdRid .one 4#3 0#2) z0 State.reply = some (.device .one 1#32) := by decide
/-- R278. -/
theorem test_wrRid : after (.wrRid .one 0#3 0#2 0#32) z0 State.reply = some .none := by decide
/-- R127: a 4-byte read at lane 3 gives 0x000000FF. -/
theorem test_rdUnmapped : after (.rdUnmapped .four 0#3 1#10 3#2) z0 State.reply = some (.device .four 0xFF#32) := by decide
/-- R128. -/
theorem test_wrUnmapped : after (.wrUnmapped .four 1#3 1#10 0#2 0x12345678#32) z0 (fun t => (t.activeLocty, t.loc)) =
    some (none, z0.loc) := by decide
/-- R296 (S3): COMPLETION, VALID and DATA_AVAILABLE, both interrupt bits. -/
theorem test_complete : after (.complete [0x80#8, 0x01#8] false 0 false)
    (outstanding 0 (enabled 0 (owning 0 (placed 0 .execution 0x80#32 12#16))))
    (fun t => ((t.bank 0).state, (t.bank 0).sts, (t.bank 0).ints, t.rwOffset, Memory.read t.buffer 1)) =
    some (.completion, 0x04000090#32, 0x03#32, 0#16, 0x01#8) := by decide
/-- R232: a pending seize hands the interface over inside the completion; the old owner keeps its response. -/
theorem test_complete_handover : after (.complete [0x80#8] true 0 false)
    { (outstanding 0 (owning 0 (placed 0 .execution 0x80#32 12#16))).setAccess 2 0x88#8 with
      nextLocty := some 2, abortingLocty := some 0 }
    (fun t => (t.activeLocty, (t.bank 0).state, (t.bank 0).sts, (t.bank 0).access, (t.bank 2).sts)) =
    some (some 2, .completion, 0x04000094#32, 0x90#8, 0x04000004#32) := by decide
/-- R350, R353 on 1.2. -/
theorem test_reset : after (.reset .v1_2 5000 false true) (outstanding 0 (owning 0 (placed 0 .execution 0x80#32 12#16)))
    (fun t => (t.bank 0, t.bufferSize, t.activeLocty, t.beOutstanding, t.beEstablished)) =
    some ({ state := .idle, access := 0x80#8, sts := 0#32, ifaceId := 0xFFFFFFFF#32, inte := 8#32, ints := 0#32 },
      4096, none, false, true) := by decide

/-- The word of a table row runs as the first event after reset: WR_ACCESS of locality 0 with the value 0. -/
theorem test_first_step : (match step (State.reset.withFetchWord 18 0x08000) with
    | .next t => (t.activeLocty, t.inputs)
    | .fault _ => (some 4, [])
    | .refused _ => (some 4, [])) = (none, []) := by decide

/-! ## Witnesses: for each obligation with hypotheses, a state and operands that meet them, clause by clause -/

/-- Locality 0 owns the interface, in IDLE. -/
def own0 : State := owning 0 z0
/-- The owner is in READY, the cursor at 0. -/
def ready0 : State := owning 0 (placed 0 .ready 0x40#32 0#16)
/-- The owner has received a whole command of 12 bytes. -/
def received0 : State := owning 0 (placed 0 .reception 0x80#32 12#16)
/-- The owner is receiving. -/
def receiving0 : State := owning 0 (placed 0 .reception 0x88#32 5#16)
/-- The owner is receiving with the buffer full. -/
def full0 : State := owning 0 (placed 0 .reception 0x88#32 4096#16)
/-- The owner's command is executing. -/
def executing0 : State := outstanding 0 (owning 0 (placed 0 .execution 0x80#32 12#16))
/-- The owner's response waits. -/
def completed0 : State := withResponse (owning 0 (placed 0 .completion 0x90#32 0#16))
/-- One byte of the response is left. -/
def last0 : State := { completed0 with rwOffset := 9#16 }
/-- Locality 1 requests. -/
def requested0 : State := own0.setAccess 1 0x82#8
/-- Locality 1 requests while the owner's command is executing. -/
def requestedBusy0 : State := executing0.setAccess 1 0x82#8
/-- Locality 3 has a seize pending behind the owner's command. -/
def seizing3 : State := { executing0.setAccess 3 0x88#8 with nextLocty := some 3, abortingLocty := some 0 }
/-- The owner's own abort is pending behind its command. -/
def aborting0 : State := { executing0 with nextLocty := some 0, abortingLocty := some 0 }
/-- Locality 1 owns the interface, in RECEPTION, while locality 0's command runs. -/
def received1Busy : State :=
  outstanding 0 (((owning 1 z0).setLocState 1 .reception).setLocState 0 .execution)
/-- The owner is in READY with a stale cursor at the capacity. -/
def stale0 : State := owning 0 (placed 0 .ready 0x40#32 4096#16)
/-- The owner receives a long packet into a buffer of 8 bytes; two bytes of capacity are left. -/
def nearlyFull0 : State :=
  { owning 0 (placed 0 .reception 0x88#32 6#16) with
    bufferSize := 8, buffer := Memory.ofBytes [0x80#8, 0x01#8, 0#8, 0#8, 0#8, 0x10#8] }
/-- The owner's response waits while a stale cursor stands at the capacity of 8 bytes. -/
def capacity0 : State := { completed0 with bufferSize := 8, rwOffset := 8#16 }
/-- Locality 0 was seized by locality 2. -/
def seized0 : State := (owning 2 z0).setAccess 0 0x90#8
/-- Locality 0 owns the interface again with BEEN_SEIZED still set. -/
def regained0 : State := own0.setAccess 0 0xB0#8
/-- The owner's release to locality 1 is pending behind its command. -/
def releasing0 : State := { requestedBusy0 with nextLocty := some 1, abortingLocty := some 0 }
/-- Locality 1 took a free interface while locality 0's own abort is pending. -/
def regaining0 : State :=
  { outstanding 0 ((owning 1 z0).setLocState 0 .execution) with nextLocty := some 0, abortingLocty := some 0 }
/-- A startup error. -/
def failed : State := { z0 with beStartupError := true }

theorem z0_inv : DeviceInv z0 := by constructor <;> decide
theorem own0_inv : DeviceInv own0 := by constructor <;> decide
theorem ready0_inv : DeviceInv ready0 := by constructor <;> decide
theorem received0_inv : DeviceInv received0 := by constructor <;> decide
theorem receiving0_inv : DeviceInv receiving0 := by constructor <;> decide
theorem full0_inv : DeviceInv full0 := by constructor <;> decide
theorem executing0_inv : DeviceInv executing0 := by constructor <;> decide
theorem completed0_inv : DeviceInv completed0 := by constructor <;> decide
theorem requested0_inv : DeviceInv requested0 := by constructor <;> decide
theorem requestedBusy0_inv : DeviceInv requestedBusy0 := by constructor <;> decide
theorem seizing3_inv : DeviceInv seizing3 := by constructor <;> decide
theorem aborting0_inv : DeviceInv aborting0 := by constructor <;> decide
theorem last0_inv : DeviceInv last0 := by constructor <;> decide
theorem nearlyFull0_inv : DeviceInv nearlyFull0 := by constructor <;> decide
theorem seized0_inv : DeviceInv seized0 := by constructor <;> decide
theorem releasing0_inv : DeviceInv releasing0 := by constructor <;> decide
theorem regaining0_inv : DeviceInv regaining0 := by constructor <;> decide
theorem received1Busy_inv : DeviceInv received1Busy := by constructor <;> decide

theorem witness_DecodeEncodeRoundTrip :
    (Instr.wrUnmapped .four 7#3 0x3FF#10 3#2 0xFFFFFFFF#32).wf = true := by decide
theorem witness_DecodedInstructionsAreWellFormed :
    decode (.bus 0x2FFFF#18 0xFFFFFFFF#32) = .ok (.wrUnmapped .four 7#3 0x3FF#10 3#2 0xFFFFFFFF#32) := by rfl
theorem witness_StepRunsTheDecodedEvent_runs :
    ({ z0 with inputs := [.bus 0x08000#18 2#32] } : State).inputs = .bus 0x08000#18 2#32 :: [] ∧
      decode (.bus 0x08000#18 2#32) = .ok (.wrAccess .one 0#3 0#2 2#32) := ⟨rfl, rfl⟩
theorem witness_StepRunsTheDecodedEvent_rejects :
    ({ z0 with inputs := [.platformReset .v2_0 0 false false] } : State).inputs =
      .platformReset .v2_0 0 false false :: [] ∧
      decode (.platformReset .v2_0 0 false false) = .error .zeroBufferSize := ⟨rfl, rfl⟩
theorem witness_StepRunsTheDecodedEvent_idle :
    z0.inputs = [] := by decide
theorem witness_EveryTransactionAnswersANextState :
    isEvent (.wrSts .four 7#3 3#2 0xFFFFFFFF#32) = false := by decide
theorem witness_StartupErrorOverride_read :
    failed.beStartupError = true ∧ readOf (.rdDataFifo .four 4#3 3#2) = some (.four, 4#3) ∧ (4#3).toNat < 5 := by decide
theorem witness_StartupErrorOverride_write :
    failed.beStartupError = true ∧ writeOf (.wrAccess .one 0#3 0#2 2#32) = some 0#3 := by decide
theorem witness_OutsideRegionLeavesDeviceUnchanged_read :
    readOf (.rdAccess .one 5#3 0#2) = some (.one, 5#3) ∧ 5 ≤ (5#3).toNat := by decide
theorem witness_OutsideRegionLeavesDeviceUnchanged_write :
    writeOf (.wrAccess .one 7#3 0#2 2#32) = some 7#3 ∧ 5 ≤ (7#3).toNat := by decide
theorem witness_Locality4WritesAreDropped :
    writeOf (.wrLocality4 .four 0x3FF#10 3#2 0xFFFFFFFF#32) = some 4#3 := by decide
theorem witness_UnlistedOffsets_read :
    widthOf (twSz 0x20004#18) = some .four ∧ (twLoc 0x20004#18).toNat < 5 ∧ isListedReg (twReg 0x20004#18) = false ∧
      0x20004#18 &&& 0x08000#18 = 0x00000#18 := by decide
theorem witness_UnlistedOffsets_write :
    widthOf (twSz 0x0CFFF#18) = some .one ∧ (twLoc 0x0CFFF#18).toNat < 5 ∧ isListedReg (twReg 0x0CFFF#18) = false ∧
      0x0CFFF#18 &&& 0x08000#18 = 0x08000#18 := by decide
theorem witness_ReadOnlyRegistersIgnoreWrites_intVector :
    widthOf (twSz 0x0B00F#18) = some .one ∧ twLoc 0x0B00F#18 ≠ 4#3 ∧ 0x0B00F#18 &&& 0x08FFC#18 = 0x0800C#18 := by decide
theorem witness_ReadOnlyRegistersIgnoreWrites_intfCapability :
    widthOf (twSz 0x28014#18) = some .four ∧ twLoc 0x28014#18 ≠ 4#3 ∧ 0x28014#18 &&& 0x08FFC#18 = 0x08014#18 := by decide
theorem witness_ReadOnlyRegistersIgnoreWrites_didVid :
    widthOf (twSz 0x0FF03#18) = some .one ∧ twLoc 0x0FF03#18 ≠ 4#3 ∧ 0x0FF03#18 &&& 0x08FFC#18 = 0x08F00#18 := by decide
theorem witness_ReadOnlyRegistersIgnoreWrites_rid :
    widthOf (twSz 0x18F04#18) = some .two ∧ twLoc 0x18F04#18 ≠ 4#3 ∧ 0x18F04#18 &&& 0x08FFC#18 = 0x08F04#18 := by decide
theorem witness_RegisterReads :
    (zero .v2_0).beStartupError = false ∧ (zero .v2_0).beTpmVersion = .v2_0 ∧
      (zero .v1_2).beStartupError = false ∧ (zero .v1_2).beTpmVersion = .v1_2 ∧
      (zero .unspec).beStartupError = false ∧ (zero .unspec).beTpmVersion = .unspec := by decide
theorem witness_AccessReadView :
    DeviceInv requested0 ∧ requested0.beStartupError = false := ⟨requested0_inv, rfl⟩
theorem witness_StsReadView :
    (own0.beStartupError = false ∧ own0.activeLocty ≠ some 4) ∧
      (completed0.beStartupError = false ∧ completed0.activeLocty = some 0 ∧ (completed0.bank 0).sts &&& 0x10#32 ≠ 0#32) ∧
      (full0.beStartupError = false ∧ full0.activeLocty = some 0 ∧ (full0.bank 0).sts &&& 0x10#32 = 0#32 ∧
        full0.rwOffset.toNat ≤ full0.bufferSize.val) := by decide
theorem witness_ReadsWithoutSideEffects_register :
    readOf (.rdSts .four 0#3 0#2) = some (.four, 0#3) ∧
      (∃ t, exec (.rdSts .four 0#3 0#2) own0 = .next t) ∧ isFifoRead (.rdSts .four 0#3 0#2) = false := ⟨rfl, ⟨_, rfl⟩, rfl⟩
theorem witness_ReadsWithoutSideEffects_fifo :
    readOf (.rdDataFifo .four 1#3 0#2) = some (.four, 1#3) ∧
      (∃ t, exec (.rdDataFifo .four 1#3 0#2) completed0 = .next t) ∧
      ∀ l, 1#3 = pageOf l → ¬(completed0.activeLocty = some l ∧ (completed0.bank l).state = .completion ∧
        (completed0.bank l).sts &&& 0x10#32 ≠ 0#32) := ⟨rfl, ⟨_, rfl⟩, by decide⟩
theorem witness_RequestFreeInterface :
    (3 : Locality) ≠ 4 ∧ z0.beStartupError = false ∧ z0.activeLocty = none ∧
      (laneWrite 0x02#32 .one 0#2).setWidth 8 &&& 0x3A#8 = 0x02#8 := by decide
theorem witness_RequestOwnedInterface_other :
    DeviceInv own0 ∧ (1 : Locality) ≠ 4 ∧ own0.beStartupError = false ∧ own0.activeLocty = some 0 ∧
      (laneWrite 0x02#32 .one 0#2).setWidth 8 &&& 0x3A#8 = 0x02#8 ∧ (0 : Locality) ≠ 1 := ⟨own0_inv, by decide⟩
theorem witness_RequestOwnedInterface_owner :
    DeviceInv own0 ∧ (0 : Locality) ≠ 4 ∧ own0.beStartupError = false ∧ own0.activeLocty = some 0 ∧
      (laneWrite 0x02#32 .one 0#2).setWidth 8 &&& 0x3A#8 = 0x02#8 := ⟨own0_inv, by decide⟩
theorem witness_ReleaseToNobody :
    (0 : Locality) ≠ 4 ∧ executing0.beStartupError = false ∧ executing0.activeLocty = some 0 ∧
      (∀ k, (executing0.bank k).access &&& 0x02#8 = 0#8) ∧ (laneWrite 0x20#32 .one 0#2).setWidth 8 &&& 0x3A#8 = 0x20#8 := by decide
theorem witness_ReleaseToHighestRequester_now :
    DeviceInv requested0 ∧ requested0.beStartupError = false ∧ requested0.activeLocty = some 0 ∧
      (requested0.bank 1).access &&& 0x02#8 ≠ 0#8 ∧ (∀ k, 1 < k → (requested0.bank k).access &&& 0x02#8 = 0#8) ∧
      (laneWrite 0x20#32 .one 0#2).setWidth 8 &&& 0x3A#8 = 0x20#8 ∧ ∀ k, (requested0.bank k).state ≠ .execution := ⟨requested0_inv, by decide⟩
theorem witness_ReleaseToHighestRequester_later :
    DeviceInv requestedBusy0 ∧ requestedBusy0.beStartupError = false ∧ requestedBusy0.activeLocty = some 0 ∧
      (requestedBusy0.bank 1).access &&& 0x02#8 ≠ 0#8 ∧ (∀ k, 1 < k → (requestedBusy0.bank k).access &&& 0x02#8 = 0#8) ∧
      (laneWrite 0x20#32 .one 0#2).setWidth 8 &&& 0x3A#8 = 0x20#8 ∧ ∃ k, (requestedBusy0.bank k).state = .execution := ⟨requestedBusy0_inv, by decide⟩
theorem witness_WithdrawRequest :
    DeviceInv requested0 ∧ (1 : Locality) ≠ 4 ∧ requested0.beStartupError = false ∧ requested0.activeLocty ≠ some 1 ∧
      (laneWrite 0x20#32 .one 0#2).setWidth 8 &&& 0x3A#8 = 0x20#8 := ⟨requested0_inv, by decide⟩
theorem witness_SeizeTakesInterface_now :
    DeviceInv own0 ∧ (3 : Locality) ≠ 4 ∧ own0.beStartupError = false ∧ (∀ a, own0.activeLocty = some a → a < 3) ∧
      (own0.bank 3).access &&& 0x08#8 = 0#8 ∧ (∀ k, 3 < k → (own0.bank k).access &&& 0x08#8 = 0#8) ∧
      (laneWrite 0x2A#32 .one 0#2).setWidth 8 &&& 0x18#8 = 0x08#8 ∧ ∀ k, (own0.bank k).state ≠ .execution := ⟨own0_inv, by decide⟩
theorem witness_SeizeTakesInterface_later :
    DeviceInv executing0 ∧ (1 : Locality) ≠ 4 ∧ executing0.beStartupError = false ∧
      (∀ a, executing0.activeLocty = some a → a < 1) ∧ (executing0.bank 1).access &&& 0x08#8 = 0#8 ∧
      (∀ k, 1 < k → (executing0.bank k).access &&& 0x08#8 = 0#8) ∧ (laneWrite 0x08#32 .one 0#2).setWidth 8 &&& 0x18#8 = 0x08#8 ∧
      ∃ k, (executing0.bank k).state = .execution := ⟨executing0_inv, by decide⟩
theorem witness_SeizeIgnored_owner :
    DeviceInv own0 ∧ (0 : Locality) ≠ 4 ∧ own0.beStartupError = false ∧ (laneWrite 0x08#32 .one 0#2).setWidth 8 &&& 0x18#8 = 0x08#8 ∧
      ∃ a, own0.activeLocty = some a ∧ 0 ≤ a := ⟨own0_inv, by decide⟩
theorem witness_SeizeIgnored_pending :
    DeviceInv seizing3 ∧ (3 : Locality) ≠ 4 ∧ seizing3.beStartupError = false ∧
      (laneWrite 0x08#32 .one 0#2).setWidth 8 &&& 0x18#8 = 0x08#8 ∧ (∃ k, (2 : Locality) < k ∧ (seizing3.bank k).access &&& 0x08#8 ≠ 0#8) ∧
      (seizing3.bank 3).access &&& 0x08#8 ≠ 0#8 := ⟨seizing3_inv, by decide⟩
theorem witness_BeenSeizedClearedByItsOwner :
    (0 : Locality) ≠ 4 ∧ z0.beStartupError = false ∧ (laneWrite 0x12#32 .one 0#2).setWidth 8 &&& 0x10#8 ≠ 0#8 ∧
      (laneWrite 0x02#32 .one 0#2).setWidth 8 &&& 0x3A#8 = (laneWrite 0x12#32 .one 0#2).setWidth 8 &&& 0x2A#8 ∧
      ¬(z0.activeLocty = some 0 ∧ (laneWrite 0x12#32 .one 0#2).setWidth 8 &&& 0x28#8 = 0x20#8) := by decide
theorem witness_BeenSeizedClearedByItsOwner_other :
    ((1 : Locality) ≠ 0) ∧ ((z0.setAccess 1 0x90#8).bank 1).access &&& 0x10#8 ≠ 0#8 := by decide
theorem witness_BeenSeizedClearedByItsOwner_alone :
    DeviceInv seized0 ∧ (0 : Locality) ≠ 4 ∧ seized0.beStartupError = false ∧ (laneWrite 0xD5#32 .one 0#2).setWidth 8 &&& 0x10#8 ≠ 0#8 ∧
      (laneWrite 0xD5#32 .one 0#2).setWidth 8 &&& 0x3A#8 = 0x10#8 ∧ (seized0.bank 0).access &&& 0x10#8 ≠ 0#8 := ⟨seized0_inv, by decide⟩
theorem witness_BeenSeizedClearedByItsOwner_release :
    (0 : Locality) ≠ 4 ∧ regained0.beStartupError = false ∧ (laneWrite 0x32#32 .one 0#2).setWidth 8 &&& 0x10#8 ≠ 0#8 ∧
      (laneWrite 0x22#32 .one 0#2).setWidth 8 &&& 0x3A#8 = (laneWrite 0x32#32 .one 0#2).setWidth 8 &&& 0x2A#8 ∧ regained0.activeLocty = some 0 ∧
      (laneWrite 0x32#32 .one 0#2).setWidth 8 &&& 0x28#8 = 0x20#8 ∧ (regained0.bank 0).access &&& 0x10#8 ≠ 0#8 := by decide
theorem witness_ReleaseAndRequest_nobody :
    DeviceInv own0 ∧ (0 : Locality) ≠ 4 ∧ own0.beStartupError = false ∧ (laneWrite 0x22#32 .one 0#2).setWidth 8 &&& 0x3A#8 = 0x22#8 ∧
      own0.activeLocty = some 0 ∧ ∀ k, (own0.bank k).access &&& 0x02#8 = 0#8 := ⟨own0_inv, by decide⟩
theorem witness_ReleaseAndRequest_now :
    DeviceInv requested0 ∧ (0 : Locality) ≠ 4 ∧ requested0.beStartupError = false ∧ (laneWrite 0x22#32 .one 0#2).setWidth 8 &&& 0x3A#8 = 0x22#8 ∧
      requested0.activeLocty = some 0 ∧ (requested0.bank 1).access &&& 0x02#8 ≠ 0#8 ∧
      (∀ k, 1 < k → (requested0.bank k).access &&& 0x02#8 = 0#8) ∧ ∀ k, (requested0.bank k).state ≠ .execution := ⟨requested0_inv, by decide⟩
theorem witness_ReleaseAndRequest_later :
    DeviceInv requestedBusy0 ∧ (0 : Locality) ≠ 4 ∧ requestedBusy0.beStartupError = false ∧ (laneWrite 0x22#32 .one 0#2).setWidth 8 &&& 0x3A#8 = 0x22#8 ∧
      requestedBusy0.activeLocty = some 0 ∧ (requestedBusy0.bank 1).access &&& 0x02#8 ≠ 0#8 ∧
      (∀ k, 1 < k → (requestedBusy0.bank k).access &&& 0x02#8 = 0#8) ∧ ∃ k, (requestedBusy0.bank k).state = .execution := ⟨requestedBusy0_inv, by decide⟩
theorem witness_ReleaseAndRequest_other :
    DeviceInv own0 ∧ (3 : Locality) ≠ 4 ∧ own0.beStartupError = false ∧ (laneWrite 0x22#32 .one 0#2).setWidth 8 &&& 0x3A#8 = 0x22#8 ∧
      own0.activeLocty = some 0 ∧ (0 : Locality) ≠ 3 := ⟨own0_inv, by decide⟩
theorem witness_ReleaseAndRequest_free :
    DeviceInv z0 ∧ (3 : Locality) ≠ 4 ∧ z0.beStartupError = false ∧ (laneWrite 0x22#32 .one 0#2).setWidth 8 &&& 0x3A#8 = 0x22#8 ∧
      z0.activeLocty = none := ⟨z0_inv, by decide⟩
theorem witness_AccessWriteFrame :
    DeviceInv seizing3 := seizing3_inv
theorem witness_AccessWriteFrame_noBit :
    DeviceInv requested0 ∧ (laneWrite 0xC5#32 .one 0#2).setWidth 8 &&& 0x3A#8 = 0#8 ∧ (1#2 : BitVec 2) ≠ 0#2 := ⟨requested0_inv, by decide⟩
theorem witness_FifoWriteIgnored :
    own0.activeLocty ≠ some 1 ∧ (own0.bank 0).state = .idle ∧ (executing0.bank 0).state = .execution ∧
      (completed0.bank 0).state = .completion ∧
      ((received0.bank 0).state = .reception ∧ (received0.bank 0).sts &&& 0x08#32 = 0#32) := by decide
theorem witness_FifoWriteStoresItsBytes_ready :
    (0 : Locality) ≠ 4 ∧ ready0.beStartupError = false ∧ ready0.activeLocty = some 0 ∧
      ready0.rwOffset.toNat < ready0.bufferSize.val ∧ (ready0.bank 0).state = .ready := by decide
theorem witness_FifoWriteStoresItsBytes_reception :
    (0 : Locality) ≠ 4 ∧ receiving0.beStartupError = false ∧ receiving0.activeLocty = some 0 ∧
      receiving0.rwOffset.toNat < receiving0.bufferSize.val ∧ (receiving0.bank 0).state = .reception ∧
      (receiving0.bank 0).sts &&& 0xFFFFFFFB#32 &&& 0xF3FFFFFF#32 = 0x88#32 := by decide
theorem witness_FifoOverflow :
    (0 : Locality) ≠ 4 ∧ full0.beStartupError = false ∧ full0.activeLocty = some 0 ∧ (full0.bank 0).state = .reception ∧
      (full0.bank 0).sts &&& 0x08#32 ≠ 0#32 ∧ full0.bufferSize.val ≤ full0.rwOffset.toNat := by decide
theorem witness_FifoOverflow_ready :
    (0 : Locality) ≠ 4 ∧ stale0.beStartupError = false ∧ stale0.activeLocty = some 0 ∧ (stale0.bank 0).state = .ready ∧
      stale0.bufferSize.val - stale0.rwOffset.toNat < min (widthBytes .one) (4 - (3#2).toNat) := by decide
/-- F9 of spec/95_test_vectors.md: two bytes fit, the third overflows. -/
theorem witness_FifoOverflow_middle :
    (0 : Locality) ≠ 4 ∧ nearlyFull0.beStartupError = false ∧ nearlyFull0.activeLocty = some 0 ∧
      (nearlyFull0.bank 0).state = .reception ∧ (nearlyFull0.bank 0).sts &&& 0x88#32 = 0x88#32 ∧
      nearlyFull0.bufferSize.val - nearlyFull0.rwOffset.toNat < min (widthBytes .four) (4 - (0#2).toNat) ∧
      ∀ j, j < 3 → 1 ≤ j → 5 < nearlyFull0.rwOffset.toNat + j → nearlyFull0.rwOffset.toNat + j <
        (Memory.be32 (Memory.writeBytes nearlyFull0.buffer nearlyFull0.rwOffset.toNat
          ((List.range j).map fun k => ((0x44332211#32 >>> (8 * k)).setWidth 8 : Byte)))).toNat := by decide
theorem witness_FifoWriteFrame :
    DeviceInv receiving0 := receiving0_inv
theorem witness_FifoWriteFrame_accepting :
    DeviceInv nearlyFull0 ∧ (0 : Locality) ≠ 4 ∧ nearlyFull0.beStartupError = false ∧ nearlyFull0.activeLocty = some 0 ∧
      (nearlyFull0.bank 0).state = .reception ∧ (nearlyFull0.bank 0).sts &&& 0xF8#32 = 0x88#32 := ⟨nearlyFull0_inv, by decide⟩
theorem witness_WholeCommandIsReceived :
    DeviceInv ready0 ∧ ready0.beStartupError = false ∧ ready0.activeLocty = some 0 ∧ (ready0.bank 0).state = .ready ∧
      ready0.rwOffset = 0#16 ∧ ready0.beOutstanding = false ∧ 6 ≤ [0x80#8, 1#8, 0#8, 0#8, 0#8, 6#8].length ∧
      [0x80#8, 1#8, 0#8, 0#8, 0#8, 6#8].length ≤ ready0.bufferSize.val ∧
      ([0x80#8, 1#8, 0#8, 0#8, 0#8, 6#8].getD 2 0#8).toNat * 2 ^ 24 + ([0x80#8, 1#8, 0#8, 0#8, 0#8, 6#8].getD 3 0#8).toNat * 2 ^ 16 +
        ([0x80#8, 1#8, 0#8, 0#8, 0#8, 6#8].getD 4 0#8).toNat * 2 ^ 8 + ([0x80#8, 1#8, 0#8, 0#8, 0#8, 6#8].getD 5 0#8).toNat =
        [0x80#8, 1#8, 0#8, 0#8, 0#8, 6#8].length := ⟨ready0_inv, by decide⟩
theorem witness_FifoReadNotServed :
    own0.beStartupError = false ∧ own0.activeLocty ≠ some 1 ∧ own0.activeLocty = some 0 ∧
      (own0.bank 0).state ≠ .completion ∧ (ready0.bank 0).sts &&& 0x10#32 = 0#32 := by decide
theorem witness_FifoReadServesItsBytes_more :
    completed0.beStartupError = false ∧ completed0.activeLocty = some 0 ∧ (completed0.bank 0).state = .completion ∧
      (completed0.bank 0).sts &&& 0x10#32 ≠ 0#32 ∧ completed0.rwOffset.toNat < completed0.bufferSize.val ∧
      (completed0.rwOffset + 1#16).toNat < min (Memory.be32 completed0.buffer).toNat completed0.bufferSize.val := by decide
theorem witness_FifoReadServesItsBytes_last :
    last0.beStartupError = false ∧ last0.activeLocty = some 0 ∧ (last0.bank 0).state = .completion ∧
      (last0.bank 0).sts &&& 0x10#32 ≠ 0#32 ∧ last0.rwOffset.toNat < last0.bufferSize.val ∧
      min (Memory.be32 last0.buffer).toNat last0.bufferSize.val ≤ (last0.rwOffset + 1#16).toNat := by decide
theorem witness_FifoReadServesItsBytes_across :
    last0.beStartupError = false ∧ last0.activeLocty = some 0 ∧ (last0.bank 0).state = .completion ∧
      (last0.bank 0).sts &&& 0x10#32 ≠ 0#32 ∧ last0.rwOffset.toNat < min (Memory.be32 last0.buffer).toNat last0.bufferSize.val ∧
      min (Memory.be32 last0.buffer).toNat last0.bufferSize.val ≤
        last0.rwOffset.toNat + min (widthBytes .four) (4 - (0#2).toNat) := by decide
/-- F16 of spec/95_test_vectors.md: the cursor stands at the capacity. -/
theorem witness_FifoReadServesItsBytes_stale :
    capacity0.beStartupError = false ∧ capacity0.activeLocty = some 0 ∧ (capacity0.bank 0).state = .completion ∧
      (capacity0.bank 0).sts &&& 0x10#32 ≠ 0#32 ∧ capacity0.bufferSize.val ≤ capacity0.rwOffset.toNat ∧
      min (Memory.be32 capacity0.buffer).toNat capacity0.bufferSize.val ≤
        capacity0.rwOffset.toNat + min (widthBytes .four) (4 - (0#2).toNat) := by decide
theorem witness_FifoReadFrame :
    DeviceInv completed0 := completed0_inv
theorem witness_FifoReadFrame_region :
    DeviceInv last0 ∧ (0#3).toNat < 5 ∧ 1 < min (widthBytes .two) (4 - (2#2).toNat) := ⟨last0_inv, by decide⟩
theorem witness_ResponseIsReadInOrder :
    DeviceInv completed0 ∧ completed0.beStartupError = false ∧ completed0.activeLocty = some 0 ∧
      (completed0.bank 0).state = .completion ∧ (completed0.bank 0).sts &&& 0x10#32 ≠ 0#32 ∧ completed0.rwOffset = 0#16 ∧
      9 < min (Memory.be32 completed0.buffer).toNat completed0.bufferSize.val := ⟨completed0_inv, by decide⟩
theorem witness_CommandReadyMakesReady_idle :
    (0 : Locality) ≠ 4 ∧ own0.beStartupError = false ∧ own0.activeLocty = some 0 ∧
      laneWrite 0x40#32 .one 0#2 &&& 0x03000000#32 = 0#32 ∧ laneWrite 0x40#32 .one 0#2 &&& 0x62#32 = 0x40#32 ∧
      (own0.bank 0).state = .idle := by decide
theorem witness_CommandReadyMakesReady_ready :
    (0 : Locality) ≠ 4 ∧ ready0.beStartupError = false ∧ ready0.activeLocty = some 0 ∧
      laneWrite 0x40#32 .one 0#2 &&& 0x03000000#32 = 0#32 ∧ laneWrite 0x40#32 .one 0#2 &&& 0x62#32 = 0x40#32 ∧
      (ready0.bank 0).state = .ready := by decide
theorem witness_CommandReadyMakesReady_completion :
    (0 : Locality) ≠ 4 ∧ completed0.beStartupError = false ∧ completed0.activeLocty = some 0 ∧
      laneWrite 0x40#32 .one 0#2 &&& 0x03000000#32 = 0#32 ∧ laneWrite 0x40#32 .one 0#2 &&& 0x62#32 = 0x40#32 ∧
      (completed0.bank 0).state = .completion ∧ (completed0.bank 0).sts &&& 0x40#32 = 0#32 := by decide
/-- The last clause of CommandReadyMakesReady speaks of a state no run reaches: COMMAND_READY stored in COMPLETION. -/
theorem witness_CommandReadyMakesReady_stored :
    (0 : Locality) ≠ 4 ∧ (completed0.setStsStore 0 0x04000050#32).beStartupError = false ∧ (completed0.setStsStore 0 0x04000050#32).activeLocty = some 0 ∧
      laneWrite 0x40#32 .one 0#2 &&& 0x03000000#32 = 0#32 ∧ laneWrite 0x40#32 .one 0#2 &&& 0x62#32 = 0x40#32 ∧
      ((completed0.setStsStore 0 0x04000050#32).bank 0).state = .completion ∧
      ((completed0.setStsStore 0 0x04000050#32).bank 0).sts &&& 0x40#32 ≠ 0#32 := by decide
theorem witness_CommandReadyAborts_now :
    DeviceInv received0 ∧ (0 : Locality) ≠ 4 ∧ received0.beStartupError = false ∧ received0.activeLocty = some 0 ∧
      laneWrite 0x40#32 .one 0#2 &&& 0x03000000#32 = 0#32 ∧ laneWrite 0x40#32 .one 0#2 &&& 0x62#32 = 0x40#32 ∧
      (received0.bank 0).state = .reception ∧ ∀ k, (received0.bank k).state ≠ .execution := ⟨received0_inv, by decide⟩
theorem witness_CommandReadyAborts_executing :
    DeviceInv executing0 ∧ (0 : Locality) ≠ 4 ∧ executing0.beStartupError = false ∧ executing0.activeLocty = some 0 ∧
      laneWrite 0x40#32 .one 0#2 &&& 0x03000000#32 = 0#32 ∧ laneWrite 0x40#32 .one 0#2 &&& 0x62#32 = 0x40#32 ∧
      (executing0.bank 0).state = .execution := ⟨executing0_inv, by decide⟩
theorem witness_CommandReadyAborts_behind :
    DeviceInv received1Busy ∧ (1 : Locality) ≠ 4 ∧ received1Busy.beStartupError = false ∧ received1Busy.activeLocty = some 1 ∧
      laneWrite 0x40#32 .one 0#2 &&& 0x03000000#32 = 0#32 ∧ laneWrite 0x40#32 .one 0#2 &&& 0x62#32 = 0x40#32 ∧
      (received1Busy.bank 1).state = .reception ∧ ∃ k, (received1Busy.bank k).state = .execution := ⟨received1Busy_inv, by decide⟩
theorem witness_TpmGoSubmits_go :
    (0 : Locality) ≠ 4 ∧ received0.beStartupError = false ∧ received0.activeLocty = some 0 ∧
      laneWrite 0x20#32 .one 0#2 &&& 0x03000000#32 = 0#32 ∧ laneWrite 0x20#32 .one 0#2 &&& 0x62#32 = 0x20#32 ∧
      (received0.bank 0).state = .reception ∧ (received0.bank 0).sts &&& 0x08#32 = 0#32 := by decide
theorem witness_TpmGoSubmits_ignored :
    (0 : Locality) ≠ 4 ∧ receiving0.beStartupError = false ∧ receiving0.activeLocty = some 0 ∧
      laneWrite 0x20#32 .one 0#2 &&& 0x03000000#32 = 0#32 ∧ laneWrite 0x20#32 .one 0#2 &&& 0x62#32 = 0x20#32 ∧
      (receiving0.bank 0).sts &&& 0x08#32 ≠ 0#32 ∧ ready0.activeLocty = some 0 ∧ (ready0.bank 0).state ≠ .reception := by decide
theorem witness_ResponseRetryRearms_completion :
    (0 : Locality) ≠ 4 ∧ completed0.beStartupError = false ∧ completed0.activeLocty = some 0 ∧
      laneWrite 0x02#32 .one 0#2 &&& 0x03000000#32 = 0#32 ∧ laneWrite 0x02#32 .one 0#2 &&& 0x62#32 = 0x02#32 ∧
      (completed0.bank 0).state = .completion := by decide
theorem witness_ResponseRetryRearms_other :
    (0 : Locality) ≠ 4 ∧ ready0.beStartupError = false ∧ ready0.activeLocty = some 0 ∧
      laneWrite 0x02#32 .one 0#2 &&& 0x03000000#32 = 0#32 ∧ laneWrite 0x02#32 .one 0#2 &&& 0x62#32 = 0x02#32 ∧
      (ready0.bank 0).state ≠ .completion := by decide
theorem witness_StsWriteWithoutAction :
    (3 : Locality) ≠ 4 ∧ (owning 3 z0).beStartupError = false ∧ (owning 3 z0).activeLocty = some 3 ∧
      laneWrite 0x03000060#32 .four 0#2 &&& 0x62#32 ∉ [0x40#32, 0x20#32, 0x02#32] := by decide
theorem witness_StsExtraActionsComeFirst :
    (0 : Locality) ≠ 4 ∧ executing0.beStartupError = false ∧ executing0.activeLocty = some 0 ∧
      laneWrite 0x00000040#32 .four 0#2 = laneWrite 0x01000040#32 .four 0#2 &&& 0xFCFFFFFF#32 := by decide
theorem witness_NonActiveWritesAreIgnored :
    writeOf (.wrSts .four 1#3 0#2 0x40#32) = some (pageOf 1) ∧ own0.activeLocty ≠ some 1 ∧
      (∀ n lane v, Instr.wrSts .four 1#3 0#2 0x40#32 ≠ .wrAccess n (pageOf 1) lane v) ∧
      (∀ n lane v, Instr.wrSts .four 1#3 0#2 0x40#32 ≠ .wrInterfaceId n (pageOf 1) lane v) := ⟨rfl, by decide, by simp, by simp⟩
theorem witness_PageKeepsOtherLocalities_write :
    DeviceInv own0 ∧ writeOf (.wrAccess .one 2#3 0#2 8#32) = some (pageOf 2) ∧ (0 : Locality) ≠ 2 ∧
      ∃ t, exec (.wrAccess .one 2#3 0#2 8#32) own0 = .next t := ⟨own0_inv, rfl, by decide, ⟨_, rfl⟩⟩
theorem witness_PageKeepsOtherLocalities_read :
    DeviceInv own0 ∧ (∃ n, readOf (.rdSts .four 4#3 0#2) = some (n, pageOf 4)) ∧ (0 : Locality) ≠ 4 ∧
      ∃ t, exec (.rdSts .four 4#3 0#2) own0 = .next t := ⟨own0_inv, ⟨_, rfl⟩, by decide, ⟨_, rfl⟩⟩
theorem witness_RaiseIrqNeedsEnables_raised :
    ((enabled 0 z0).bank 0).inte &&& 0x80000000#32 ≠ 0#32 ∧ ((enabled 0 z0).bank 0).inte &&& 0x03#32 ≠ 0#32 := by decide
theorem witness_RaiseIrqNeedsEnables_masked :
    (z0.bank 0).inte &&& 0x80000000#32 = 0#32 ∧ ((enabled 0 z0).bank 0).inte &&& 0x10#32 = 0#32 := by decide
theorem witness_IntEnableWriteMerges :
    (0 : Locality) ≠ 4 ∧ own0.beStartupError = false ∧ own0.activeLocty = some 0 ∧ own0.activeLocty ≠ some 3 := by decide
theorem witness_IntStatusWriteClears :
    (3 : Locality) ≠ 4 ∧ (owning 3 z0).beStartupError = false ∧ (owning 3 z0).activeLocty = some 3 ∧
      (owning 3 z0).activeLocty ≠ some 0 := by decide
theorem witness_InterfaceIdLock :
    (3 : Locality) ≠ 4 ∧ z0.beStartupError = false ∧ laneWrite 0x08#32 .one 2#2 &&& 0x00080000#32 ≠ 0#32 ∧
      laneWrite 0xFF#32 .one 0#2 &&& 0x00080000#32 = 0#32 := by decide
theorem witness_CompletionDelivers :
    executing0.beOutstanding = true ∧ [0x80#8].length ≤ executing0.cmd.outCap.val ∧ executing0.nextLocty = none := by decide
theorem witness_CompletionRunsPendingHandOver_seize :
    DeviceInv seizing3 ∧ seizing3.beOutstanding = true ∧ [0x80#8].length ≤ seizing3.cmd.outCap.val ∧
      seizing3.nextLocty = some 3 ∧ ¬(seizing3.abortingLocty = some 3 ∧ 3 = seizing3.cmd.locty) := ⟨seizing3_inv, by decide⟩
theorem witness_CompletionRunsPendingHandOver_interrupt :
    DeviceInv (enabled 0 seizing3) ∧ ((enabled 0 seizing3).bank (enabled 0 seizing3).cmd.locty).inte &&& 0x80000000#32 ≠ 0#32 ∧
      ((enabled 0 seizing3).bank (enabled 0 seizing3).cmd.locty).inte &&& 0x03#32 ≠ 0#32 := ⟨by constructor <;> decide, by decide⟩
theorem witness_CompletionRunsPendingHandOver_self :
    DeviceInv aborting0 ∧ aborting0.beOutstanding = true ∧ [0x80#8].length ≤ aborting0.cmd.outCap.val ∧
      aborting0.nextLocty = some 0 ∧ aborting0.abortingLocty = some 0 := ⟨aborting0_inv, by decide⟩
/-- AB1 of spec/95_test_vectors.md: a release to a requester without a seize is pending. -/
theorem witness_CompletionRunsPendingHandOver_release :
    DeviceInv releasing0 ∧ releasing0.beOutstanding = true ∧ [0x80#8].length ≤ releasing0.cmd.outCap.val ∧
      releasing0.nextLocty = some 1 ∧ (releasing0.bank 1).access &&& 0x08#8 = 0#8 ∧ releasing0.activeLocty = some 0 :=
  ⟨releasing0_inv, by decide⟩
/-- AB4 of spec/95_test_vectors.md: a self-abort of locality 0 is pending while locality 1 owns the interface. -/
theorem witness_CompletionRunsPendingHandOver_selfRegains :
    DeviceInv regaining0 ∧ regaining0.beOutstanding = true ∧ [0x80#8].length ≤ regaining0.cmd.outCap.val ∧
      regaining0.nextLocty = some 0 ∧ regaining0.abortingLocty = some 0 ∧ regaining0.activeLocty = some 1 :=
  ⟨regaining0_inv, by decide⟩
theorem witness_CompletionOutsideItsContract :
    z0.beOutstanding = false ∧
      ({ executing0 with cmd := { locty := 0, inLen := 0#16, outCap := 0 } } : State).beOutstanding = true ∧
      ({ executing0 with cmd := { locty := 0, inLen := 0#16, outCap := 0 } } : State).cmd.outCap.val < [0x80#8].length := by decide
theorem witness_StepKeepsDeviceInv :
    DeviceInv { own0 with inputs := [.bus 0x0A000#18 8#32] } ∧
      ∃ t, step { own0 with inputs := [.bus 0x0A000#18 8#32] } = .next t := ⟨by constructor <;> decide, ⟨_, rfl⟩⟩
theorem witness_ResetSetsEveryRegister :
    z0.params.irqLineAtReset = .deasserted ∧
      ({ z0 with params := { z0.params with irqLineAtReset := .unchanged } } : State).params.irqLineAtReset = .unchanged := by decide
theorem witness_PowerOnHasTheInvariants :
    Memory.wf [(0, 0x80#8), (4095, 0xFF#8)] = true ∧ 1 ≤ 1 := by decide
theorem witness_StepKeepsBackendInv :
    DeviceInv { executing0 with inputs := [.bus 0x0A000#18 8#32] } ∧
      ({ executing0 with inputs := [.bus 0x0A000#18 8#32] } : State).faults = FaultSet.empty ∧
      BackendInv { executing0 with inputs := [.bus 0x0A000#18 8#32] } ∧
      ∃ t, step { executing0 with inputs := [.bus 0x0A000#18 8#32] } = .next t ∧ t.faults = FaultSet.empty := ⟨by constructor <;> decide, rfl, by constructor <;> decide, ⟨_, rfl, rfl⟩⟩
theorem witness_SelftestDoneIsSticky :
    (∃ t, exec (.complete [0x80#8] true 0 false) executing0 = .next t) ∧
      isEvent (.wrSts .one 0#3 0#2 0x40#32) = false ∧ ∃ t, exec (.wrSts .one 0#3 0#2 0x40#32) executing0 = .next t := ⟨⟨_, rfl⟩, rfl, ⟨_, rfl⟩⟩
theorem witness_MovesFollowTheTable_guest :
    isEvent (.wrSts .one 0#3 0#2 0x40#32) = false ∧
      ∃ t, exec (.wrSts .one 0#3 0#2 0x40#32) own0 = .next t ∧ (t.bank 0).state = .ready := ⟨rfl, ⟨_, rfl, by decide⟩⟩
theorem witness_MovesFollowTheTable_idle :
    (∀ ver raw err est, Instr.complete [] false 0 false ≠ .reset ver raw err est) ∧
      ∃ t, exec (.complete [] false 0 false) executing0 = .next t ∧ (t.bank 1).state = .idle := ⟨by simp, ⟨_, rfl, by decide⟩⟩
theorem witness_FixedUntilReset :
    (∃ t, exec (.refusedWidth false 0#3 0#10 0#2 0#32) { z0 with faults := ⟨true, true, true⟩ } = .next t) ∧
      ∀ ver raw err est, Instr.refusedWidth false 0#3 0#10 0#2 0#32 ≠ .reset ver raw err est := ⟨⟨_, rfl⟩, by simp⟩

end Sys2Proof.Tests
end

section
/-! PROOFS. What one instruction does to the device, said once: `Effect` lists the operations that an instruction can
perform, and every whole-machine statement below is proved over this list instead of over the 28 arms of `exec`. -/

namespace Sys2Proof.Machine

/-- What a guest transaction can do to the device: at most one operation of a register, then the reply
(spec/40_dispatch.md R120 to R123). Locality 4 performs no write. -/
inductive GuestEffect (s : State) : State → Prop where
  | unchanged : GuestEffect s s
  | answered {u : State} (r : Reply) (c : Nat) (h : GuestEffect s u) : GuestEffect s { u with reply := r, freeCount := c }
  | widthFault : GuestEffect s (recordFault .refusedWidth s)
  | fifoRead (n : Width) (lane : BitVec 2) (l : Locality) : GuestEffect s (fifoRead n lane l s).2
  | fifoWrite {l : Locality} (hl : l ≠ 4) (bytes : List Byte) : GuestEffect s (fifoWrite l bytes s)
  | accessWrite {l : Locality} (hl : l ≠ 4) (wv : Word) : GuestEffect s (accessWrite l wv s)
  | stsWrite {l : Locality} (hl : l ≠ 4) (wv : Word) : GuestEffect s (stsWrite l wv s)
  | intEnableWrite {l : Locality} (hl : l ≠ 4) (v : Word) (n : Width) (lane : BitVec 2) :
      GuestEffect s (intEnableWrite l (laneWrite v n lane) (laneKeep n lane) s)
  | intStatusWrite {l : Locality} (hl : l ≠ 4) (wv : Word) : GuestEffect s (intStatusWrite l wv s)
  | interfaceIdWrite (wv : Word) : GuestEffect s (interfaceIdWrite wv s)

/-- What an instruction that runs can do: a guest transaction, a completion inside its contract, a reset. -/
inductive Effect (s : State) : Instr → State → Prop where
  | guest {i : Instr} {t : State} (hi : isEvent i = false) (h : GuestEffect s t) : Effect s i t
  | completion {resp : List Byte} {selftest : Bool} {ret : Int} {est : Bool} (hout : s.beOutstanding = true)
      (hlen : resp.length ≤ s.cmd.outCap.val) :
      Effect s (.complete resp selftest ret est) (completeCommand resp selftest est s).quiet
  | reset {ver : TpmVersion} {raw : Nat} {err est : Bool} :
      Effect s (.reset ver raw err est) (resetDevice ver raw err est s).quiet

theorem GuestEffect.quiet {s u : State} (h : GuestEffect s u) : GuestEffect s u.quiet := h.answered .none u.freeCount

theorem GuestEffect.answer {s u : State} (h : GuestEffect s u) (n : Width) (v : Word) : GuestEffect s (u.answer n v) :=
  h.answered (.device n v) u.freeCount

/-- The read pipeline performs what its register performs, or only answers. -/
theorem guestEffect_busRead {s : State} (n : Width) (loc : BitVec 3) {serve : Locality → State → Word × State}
    (h : ∀ l, GuestEffect s (serve l s).2) : GuestEffect s (busRead n loc serve s) := by
  unfold busRead
  split
  · exact .answered _ _ .unchanged
  · split
    · exact GuestEffect.unchanged.answer _ _
    · exact (h _).answer _ _

/-- A read of a register other than the FIFO only answers (spec/20_memory.md R76). -/
theorem guestEffect_regRead (s : State) (n : Width) (loc : BitVec 3) (lane : BitVec 2) (value : Locality → State → Word) :
    GuestEffect s (regRead n loc lane value s) :=
  guestEffect_busRead n loc fun _ => .unchanged

/-- The write pipeline performs what its register performs on a locality other than 4, or nothing. -/
theorem guestEffect_busWrite {s : State} (loc : BitVec 3) {serve : Locality → State → State}
    (h : ∀ l, l ≠ 4 → GuestEffect s (serve l s)) : GuestEffect s (busWrite loc serve s) := by
  unfold busWrite
  split
  · exact GuestEffect.unchanged.quiet
  · split
    · exact GuestEffect.unchanged.quiet
    · split
      · exact GuestEffect.unchanged.quiet
      · exact (h _ ‹_›).quiet

/-- COMPLETE runs only with a command outstanding and a response inside its capacity (spec/47_backend.md R296). -/
theorem effect_of_execComplete {resp : List Byte} {selftest : Bool} {ret : Int} {est : Bool} {s t : State}
    (h : execComplete resp selftest ret est s = .next t) : Effect s (.complete resp selftest ret est) t := by
  unfold execComplete at h
  split at h
  · split at h
    · cases h
      exact .completion ‹_› ‹_›
    · cases h
  · cases h

/-- Every instruction that runs has one of the listed effects. -/
theorem exec_effect {i : Instr} {s t : State} (h : exec i s = .next t) : Effect s i t := by
  cases i
  case complete => exact effect_of_execComplete h
  case reset => cases h; exact .reset
  all_goals
    cases h
    refine .guest rfl ?_
  case refusedWidth => exact GuestEffect.widthFault.quiet
  case wrLocality4 => exact GuestEffect.unchanged.quiet
  case rdDataFifo n loc lane => exact guestEffect_busRead n loc (.fifoRead n lane)
  case rdDataXfifo n loc dword lane => exact guestEffect_busRead n loc (.fifoRead n lane)
  case wrAccess n loc lane v => exact guestEffect_busWrite loc fun _ hl => .accessWrite hl _
  case wrIntEnable n loc lane v => exact guestEffect_busWrite loc fun _ hl => .intEnableWrite hl _ _ _
  case wrIntStatus n loc lane v => exact guestEffect_busWrite loc fun _ hl => .intStatusWrite hl _
  case wrSts n loc lane v => exact guestEffect_busWrite loc fun _ hl => .stsWrite hl _
  case wrDataFifo n loc lane v => exact guestEffect_busWrite loc fun _ hl => .fifoWrite hl _
  case wrDataXfifo n loc dword lane v => exact guestEffect_busWrite loc fun _ hl => .fifoWrite hl _
  case wrInterfaceId n loc lane v => exact guestEffect_busWrite loc fun _ _ => .interfaceIdWrite _
  case wrIntVector n loc lane v => exact guestEffect_busWrite loc fun _ _ => .unchanged
  case wrIntfCapability n loc lane v => exact guestEffect_busWrite loc fun _ _ => .unchanged
  case wrDidVid n loc lane v => exact guestEffect_busWrite loc fun _ _ => .unchanged
  case wrRid n loc lane v => exact guestEffect_busWrite loc fun _ _ => .unchanged
  case wrUnmapped n loc reg lane v => exact guestEffect_busWrite loc fun _ _ => .unchanged
  all_goals exact guestEffect_regRead ..

@[simp] theorem isEvent_readInstr (n : Width) (loc : BitVec 3) (lane : BitVec 2) (r : RegName) :
    isEvent (readInstr n loc lane r) = false := by
  cases r <;> rfl

@[simp] theorem isEvent_writeInstr (n : Width) (loc : BitVec 3) (lane : BitVec 2) (v : Word) (r : RegName) :
    isEvent (writeInstr n loc lane v r) = false := by
  cases r <;> rfl

/-- A transaction word spells a guest transaction. -/
@[simp] theorem isEvent_decodeBus (tw : BitVec 18) (data : Word) : isEvent (decodeBus tw data) = false := by
  unfold decodeBus
  split
  · rfl
  · split
    · split
      · rfl
      · simp
    · simp

/-- The decoder admits a reset only with a backend buffer size of at least 1 (spec/00_scope.md R11). -/
theorem raw_pos_of_decode_reset {x : Input} {ver : TpmVersion} {raw : Nat} {err est : Bool}
    (h : decode x = .ok (.reset ver raw err est)) : 1 ≤ raw := by
  cases x with
  | bus tw data =>
    have hi : decodeBus tw data = .reset ver raw err est := Except.ok.inj h
    have hevent := isEvent_decodeBus tw data
    simp [hi, isEvent] at hevent
  | completion resp selftest ret est' =>
    simp only [decode] at h
    split at h <;> cases h
  | platformReset ver' raw' err' est' =>
    simp only [decode] at h
    split at h
    · cases h
      assumption
    · cases h

/-- A step with no event changes nothing; any other takes the oldest event and performs what it decodes to. -/
theorem step_effect {s t : State} (h : step s = .next t) :
    t = s ∨ ∃ i rest, Effect { s with inputs := rest } i t ∧ ∀ ver raw err est, i = .reset ver raw err est → 1 ≤ raw := by
  unfold step at h
  split at h
  · cases h
    exact .inl rfl
  · next x s' hx =>
    obtain ⟨rest, rfl⟩ : ∃ rest, s' = { s with inputs := rest } := by
      unfold nextInput at hx
      split at hx <;> cases hx
      exact ⟨_, rfl⟩
    split at h
    · next i hi => exact .inr ⟨i, rest, exec_effect h, fun _ _ _ _ hr => raw_pos_of_decode_reset (hr ▸ hi)⟩
    · cases h

end Sys2Proof.Machine
end

section
/-! PROOFS. The moves of the per-locality state machine, operation by operation, and what only grows: the cancel count and
the fault record. -/

namespace Sys2Proof.Machine

theorem State.anyExecution_iff (s : State) : s.anyExecution = true ↔ ∃ k, (s.bank k).state = .execution := by
  simp [State.anyExecution]

/-! ## The operations under a WR_STS and a WR_ACCESS, walked through once -/

/-- A WR_STS performs the extra actions and then at most one action (spec/43_sts.md R203, R209). -/
theorem stsWrite_cases {P : State → Prop} (l : Locality) (wv : Word) (s : State) (hnone : P s)
    (hextra : P (stsExtraActions l wv s)) (hready : P (commandReady l (stsExtraActions l wv s)))
    (hgo : P (tpmGo l (stsExtraActions l wv s))) (hretry : P (responseRetry l (stsExtraActions l wv s))) :
    P (stsWrite l wv s) := by
  unfold stsWrite
  dsimp only
  split
  · split
    · exact hready
    · split
      · exact hgo
      · split
        · exact hretry
        · exact hextra
  · exact hnone

/-- A FIFO write takes bytes only from the owner in READY or RECEPTION (spec/42_fifo.md R171, R172). -/
theorem fifoWrite_cases {P : State → Prop} (l : Locality) (bytes : List Byte) (s : State) (hnone : P s)
    (htake : (s.bank l).state = .ready ∨ (s.bank l).state = .reception → P (appendBytes l bytes (enterReception l s))) :
    P (fifoWrite l bytes s) := by
  unfold fifoWrite
  split
  · split
    · exact hnone
    · exact hnone
    · exact hnone
    · exact htake (.inl ‹_›)
    · exact htake (.inr ‹_›)
  · exact hnone

/-- A WR_ACCESS is made of ACCESS stores, recorded seizes, prep_aborts and hand-overs (spec/41_access.md R141): what all
of these keep, it keeps. -/
theorem accessWrite_induct {P : State → Prop} (hset : ∀ l x s, P s → P (s.setAccess l x))
    (hseize : ∀ l s, P s → P (recordSeize l s)) (habort : ∀ a n s, P s → P (prepAbort a n s))
    (hown : ∀ new s, P s → P (newActiveLocality new s)) (l : Locality) (wv : Word) {s : State} (hs : P s) :
    P (accessWrite l wv s) := by
  have step2 : ∀ b w, P w.st → P (accessStep2 l b w).st := by
    intro b w hw
    unfold accessStep2
    split
    · split
      · split
        · exact habort _ _ _ hw
        · exact hw
      · exact hset _ _ _ hw
    · exact hw
  have step3 : ∀ b w, P w.st → P (accessStep3 l b w).st := by
    intro b w hw
    unfold accessStep3
    split
    · exact hset _ _ _ hw
    · exact hw
  have step4 : ∀ b w, P w.st → P (accessStep4 l b w).st := by
    intro b w hw
    unfold accessStep4
    split
    · exact habort _ _ _ (hseize _ _ hw)
    · exact hw
  have step5 : ∀ b w, P w.st → P (accessStep5 l b w).st := by
    intro b w hw
    unfold accessStep5
    split
    · split
      · exact hset _ _ _ hw
      · exact hw
    · exact hw
  have finish : ∀ w : AccessWork, P w.st → P (accessFinish w) := by
    intro w hw
    unfold accessFinish
    split
    · exact hw
    · exact hown _ _ hw
  exact finish _ (step5 _ _ (step4 _ _ (step3 _ _ (step2 _ _ hs))))

/-! ## States after each operation -/

/-- Only a pending self-abort moves a locality (spec/44_abort.md R231). -/
theorem abort_state (s : State) (k : Locality) :
    ((abort s).bank k).state =
      if s.nextLocty = some k ∧ s.abortingLocty = some k then .ready else (s.bank k).state := by
  unfold abort
  dsimp only
  split
  · next x hx =>
    by_cases ha : s.abortingLocty = some x
    · by_cases hk : k = x
      · simp [hx, ha, hk]
      · simp [hx, ha, hk, Ne.symm hk]
    · have : ¬ (x = k ∧ s.abortingLocty = some k) := fun h => ha (h.1 ▸ h.2)
      simp [hx, ha, this]
  · simp_all

/-- While a locality is in EXECUTION the hand-over waits and the backend is asked to cancel (spec/44_abort.md R230). -/
theorem prepAbort_deferred {s : State} (h : s.anyExecution = true) (a : Option Locality) (n : Locality) :
    prepAbort a n s = backendCancel { s with abortingLocty := a, nextLocty := some n } :=
  if_pos h

/-- With no locality in EXECUTION the hand-over is performed at once (spec/44_abort.md R230). -/
theorem prepAbort_now {s : State} (h : s.anyExecution = false) (a : Option Locality) (n : Locality) :
    prepAbort a n s = abort { s with abortingLocty := a, nextLocty := some n } :=
  if_neg (Bool.eq_false_iff.1 h)

/-- A self-abort at once moves a locality to READY, and only while no locality is in EXECUTION (spec/44_abort.md R230). -/
theorem prepAbort_state (a : Option Locality) (n : Locality) (s : State) (k : Locality) :
    ((prepAbort a n s).bank k).state =
      if s.anyExecution = false ∧ n = k ∧ a = some k then .ready else (s.bank k).state := by
  cases h : s.anyExecution
  · simp [prepAbort_now h, abort_state]
  · simp [prepAbort_deferred h]

theorem prepAbort_nextLocty (a : Option Locality) (n : Locality) (s : State) :
    (prepAbort a n s).nextLocty = if s.anyExecution then some n else none := by
  cases h : s.anyExecution
  · simp [prepAbort_now h]
  · simp [prepAbort_deferred h]

theorem enterReception_state (l : Locality) (s : State) (k : Locality) :
    ((enterReception l s).bank k).state =
      if k = l ∧ (s.bank l).state = .ready then .reception else (s.bank k).state := by
  unfold enterReception
  split
  · next h => simp [h]
  · next h =>
    have h : (s.bank l).state ≠ .ready := h
    simp [h]

theorem readyFromCompletion_state (l : Locality) (s : State) (k : Locality) :
    ((readyFromCompletion l s).bank k).state = if k = l then .ready else (s.bank k).state := by
  unfold readyFromCompletion
  dsimp only
  split <;> simp

theorem tpmGo_state (l : Locality) (s : State) (k : Locality) :
    ((tpmGo l s).bank k).state =
      if k = l ∧ (s.bank l).state = .reception ∧ anySet (s.bank l).sts stsExpect = false then .execution
      else (s.bank k).state := by
  unfold tpmGo
  split
  · next h => simp_all
  · next h =>
    have h : ¬ ((s.bank l).state = .reception ∧ anySet (s.bank l).sts stsExpect = false) := by simpa using h
    simp [h]

/-- The states after COMPLETE, the deferred hand-over included (spec/47_backend.md R296). -/
theorem completeCommand_state (resp : List Byte) (selftest est : Bool) (s : State) (k : Locality) :
    ((completeCommand resp selftest est s).bank k).state =
      if s.nextLocty = some k ∧ s.abortingLocty = some k then .ready
      else if k = s.cmd.locty then .completion else (s.bank k).state := by
  unfold completeCommand
  dsimp only
  split
  · simp [abort_state]
  · next h =>
    have h : s.nextLocty = none := by simpa using h
    simp [h]

/-- Unchanged, or to READY from a state other than EXECUTION: what an ACCESS write does to a locality. -/
def LocState.StaysOrReadies (a b : LocState) : Prop := b = a ∨ (a ≠ .execution ∧ b = .ready)

theorem LocState.StaysOrReadies.trans {a b c : LocState} (h₁ : a.StaysOrReadies b) (h₂ : b.StaysOrReadies c) :
    a.StaysOrReadies c := by
  rcases h₁ with rfl | ⟨ha, rfl⟩
  · exact h₂
  · rcases h₂ with rfl | ⟨_, rfl⟩ <;> exact .inr ⟨ha, rfl⟩

theorem LocState.StaysOrReadies.guestMove {a b : LocState} (h : a.StaysOrReadies b) : guestMove a b = true := by
  rcases h with rfl | ⟨ha, rfl⟩
  · cases b <;> rfl
  · cases a with
    | execution => exact absurd rfl ha
    | _ => rfl

theorem prepAbort_staysOrReadies (a : Option Locality) (n : Locality) (s : State) (k : Locality) :
    (s.bank k).state.StaysOrReadies ((prepAbort a n s).bank k).state := by
  rw [prepAbort_state]
  split
  · next h =>
    refine .inr ⟨fun hk => ?_, rfl⟩
    have := (s.anyExecution_iff).2 ⟨k, hk⟩
    simp [h.1] at this
  · exact .inl rfl

theorem accessWrite_staysOrReadies (l : Locality) (wv : Word) (s : State) (k : Locality) :
    (s.bank k).state.StaysOrReadies ((accessWrite l wv s).bank k).state := by
  refine accessWrite_induct (P := fun u => (s.bank k).state.StaysOrReadies (u.bank k).state)
    ?_ ?_ (fun a n u h => h.trans (prepAbort_staysOrReadies a n u k)) ?_ l wv (.inl rfl)
  · intro l x u h; simpa using h
  · intro l u h; simpa using h
  · intro new u h; simpa using h

@[simp] theorem guestMove_self (a : LocState) : guestMove a a = true := by
  cases a <;> rfl

/-- COMMAND_READY moves its locality along the rows of spec/10_state.md R25, by the action's case (spec/43_sts.md R206). -/
theorem commandReady_guestMove (l : Locality) (s : State) (k : Locality) :
    guestMove (s.bank k).state ((commandReady l s).bank k).state = true := by
  unfold commandReady
  split
  · simp
  · next h =>
    by_cases hk : k = l
    · subst hk; simp [h, guestMove]
    · simp [hk]
  · exact (prepAbort_staysOrReadies _ _ s k).guestMove
  · exact (prepAbort_staysOrReadies _ _ s k).guestMove
  · next h =>
    rw [readyFromCompletion_state]
    by_cases hk : k = l
    · subst hk; simp [h, guestMove]
    · simp [hk]

theorem tpmGo_guestMove (l : Locality) (s : State) (k : Locality) :
    guestMove (s.bank k).state ((tpmGo l s).bank k).state = true := by
  rw [tpmGo_state]
  split
  · next h =>
    obtain ⟨rfl, hk, -⟩ := h
    simp [hk, guestMove]
  · simp

theorem stsWrite_guestMove (l : Locality) (wv : Word) (s : State) (k : Locality) :
    guestMove (s.bank k).state ((stsWrite l wv s).bank k).state = true := by
  refine stsWrite_cases (P := fun u => guestMove (s.bank k).state (u.bank k).state = true) l wv s ?_ ?_ ?_ ?_ ?_
  · simp
  · simp
  · simpa using commandReady_guestMove l (stsExtraActions l wv s) k
  · simpa using tpmGo_guestMove l (stsExtraActions l wv s) k
  · simp

theorem fifoWrite_guestMove (l : Locality) (bytes : List Byte) (s : State) (k : Locality) :
    guestMove (s.bank k).state ((fifoWrite l bytes s).bank k).state = true := by
  refine fifoWrite_cases (P := fun u => guestMove (s.bank k).state (u.bank k).state = true) l bytes s (by simp) fun _ => ?_
  simp only [appendBytes_bank, enterReception_state]
  split
  · next h =>
    obtain ⟨rfl, hk⟩ := h
    simp [hk, guestMove]
  · simp

/-- Every guest transaction moves every locality along the guest rows of spec/10_state.md R25. -/
theorem GuestEffect.guestMove {s t : State} (h : GuestEffect s t) (k : Locality) :
    guestMove (s.bank k).state (t.bank k).state = true := by
  induction h with
  | unchanged => simp
  | answered r c h ih => exact ih
  | widthFault => simp
  | fifoRead n lane l => simp
  | fifoWrite hl bytes => exact fifoWrite_guestMove _ _ s k
  | accessWrite hl wv => exact (accessWrite_staysOrReadies _ _ s k).guestMove
  | stsWrite hl wv => exact stsWrite_guestMove _ _ s k
  | intEnableWrite hl v n lane => simp
  | intStatusWrite hl wv => simp
  | interfaceIdWrite wv => simp

/-- The table has no guest row into IDLE. -/
theorem idle_of_guestMove_idle {a : LocState} (h : Machine.guestMove a .idle = true) : a = .idle := by
  cases a with
  | idle => rfl
  | _ => cases h

theorem completeCommand_idle {resp : List Byte} {selftest est : Bool} {s : State} {k : Locality}
    (h : ((completeCommand resp selftest est s).bank k).state = .idle) : (s.bank k).state = .idle := by
  rw [completeCommand_state] at h
  split at h
  · cases h
  · split at h
    · cases h
    · exact h

/-! ## The cancel count and the fault record only grow -/

theorem prepAbort_cancels (a : Option Locality) (n : Locality) (s : State) :
    s.beCancels ≤ (prepAbort a n s).beCancels := by
  cases h : s.anyExecution
  · simp [prepAbort_now h]
  · simp [prepAbort_deferred h, backendCancel]

theorem stsExtraActions_cancels (l : Locality) (wv : Word) (s : State) :
    s.beCancels ≤ (stsExtraActions l wv s).beCancels := by
  have hcancel : s.beCancels ≤ (cancelAction l s).beCancels := by
    unfold cancelAction
    split <;> simp [backendCancel]
  unfold stsExtraActions
  dsimp only
  split
  · split <;> split <;> simp [hcancel]
  · exact le_rfl

theorem commandReady_cancels (l : Locality) (s : State) : s.beCancels ≤ (commandReady l s).beCancels := by
  unfold commandReady
  split
  · simp
  · simp
  · exact prepAbort_cancels _ _ s
  · exact prepAbort_cancels _ _ s
  · simp

theorem stsWrite_cancels (l : Locality) (wv : Word) (s : State) : s.beCancels ≤ (stsWrite l wv s).beCancels := by
  have hextra := stsExtraActions_cancels l wv s
  refine stsWrite_cases (P := fun u => s.beCancels ≤ u.beCancels) l wv s le_rfl hextra
    (hextra.trans (commandReady_cancels _ _)) ?_ ?_
  · simpa using hextra
  · simpa using hextra

theorem accessWrite_cancels (l : Locality) (wv : Word) (s : State) : s.beCancels ≤ (accessWrite l wv s).beCancels := by
  refine accessWrite_induct (P := fun u => s.beCancels ≤ u.beCancels)
    ?_ ?_ (fun a n u h => h.trans (prepAbort_cancels a n u)) ?_ l wv le_rfl
  · intro l x u h; simpa using h
  · intro l u h; simpa using h
  · intro new u h; simpa using h

/-- No guest transaction lowers the cancel count (spec/47_backend.md R293). -/
theorem GuestEffect.cancels {s t : State} (h : GuestEffect s t) : s.beCancels ≤ t.beCancels := by
  induction h with
  | unchanged => exact le_rfl
  | answered r c h ih => exact ih
  | widthFault => simp
  | fifoRead n lane l => simp
  | fifoWrite hl bytes => simp
  | accessWrite hl wv => exact accessWrite_cancels _ _ s
  | stsWrite hl wv => exact stsWrite_cancels _ _ s
  | intEnableWrite hl v n lane => simp
  | intStatusWrite hl wv => simp
  | interfaceIdWrite wv => simp

/-- Every reason in the first record is in the second. -/
def FaultSet.Within (f g : FaultSet) : Prop :=
  (f.refusedWidth = true → g.refusedWidth = true) ∧ (f.backendBusy = true → g.backendBusy = true) ∧
    (f.bufferRace = true → g.bufferRace = true)

theorem FaultSet.Within.refl (f : FaultSet) : f.Within f := ⟨id, id, id⟩

theorem FaultSet.Within.trans {f g h : FaultSet} (h₁ : f.Within g) (h₂ : g.Within h) : f.Within h :=
  ⟨h₂.1 ∘ h₁.1, h₂.2.1 ∘ h₁.2.1, h₂.2.2 ∘ h₁.2.2⟩

theorem FaultSet.within_add (f : FaultSet) (r : FaultReason) : f.Within (f.add r) := by
  cases r <;> simp [FaultSet.Within, FaultSet.add]

theorem FaultSet.eq_empty_of_within {f g : FaultSet} (h : f.Within g) (hg : g = FaultSet.empty) :
    f = FaultSet.empty := by
  obtain ⟨a, b, c⟩ := f
  subst hg
  simpa [FaultSet.Within, FaultSet.empty] using h

theorem submit_faults (l : Locality) (s : State) :
    (submit l s).faults = if s.beOutstanding then s.faults.add .backendBusy else s.faults := by
  unfold submit
  split <;> rfl

theorem storeByte_faults (b : Byte) (s : State) :
    (storeByte b s).faults = if s.beOutstanding then s.faults.add .bufferRace else s.faults := by
  unfold storeByte
  split <;> rfl

theorem appendBytes_faults (l : Locality) (bs : List Byte) (s : State) :
    s.faults.Within (appendBytes l bs s).faults := by
  induction bs generalizing s with
  | nil => exact .refl _
  | cons b bs ih =>
    have hstore : s.faults.Within (storeByte b s).faults := by
      rw [storeByte_faults]
      split
      · exact s.faults.within_add _
      · exact .refl _
    unfold appendBytes
    split
    · split
      · refine hstore.trans ?_
        simpa using ih (checkComplete l (storeByte b s))
      · simpa using FaultSet.Within.refl _
    · exact .refl _

theorem fifoWrite_faults (l : Locality) (bs : List Byte) (s : State) : s.faults.Within (fifoWrite l bs s).faults := by
  refine fifoWrite_cases (P := fun u => s.faults.Within u.faults) l bs s (.refl _) fun _ => ?_
  simpa using appendBytes_faults l bs (enterReception l s)

theorem tpmGo_faults (l : Locality) (s : State) : s.faults.Within (tpmGo l s).faults := by
  unfold tpmGo
  split
  · simp only [State.setLocState_frame, submit_faults]
    split
    · exact s.faults.within_add _
    · exact .refl _
  · exact .refl _

theorem stsWrite_faults (l : Locality) (wv : Word) (s : State) : s.faults.Within (stsWrite l wv s).faults := by
  refine stsWrite_cases (P := fun u => s.faults.Within u.faults) l wv s (.refl _) ?_ ?_ ?_ ?_
  · simpa using FaultSet.Within.refl _
  · simpa using FaultSet.Within.refl _
  · simpa using tpmGo_faults l (stsExtraActions l wv s)
  · simpa using FaultSet.Within.refl _

/-- No guest transaction clears a fault reason (spec/10_state.md R42). -/
theorem GuestEffect.faults {s t : State} (h : GuestEffect s t) : s.faults.Within t.faults := by
  induction h with
  | unchanged => exact .refl _
  | answered r c h ih => exact ih
  | widthFault => exact s.faults.within_add _
  | fifoRead n lane l => simpa using FaultSet.Within.refl _
  | fifoWrite hl bytes => exact fifoWrite_faults _ _ s
  | accessWrite hl wv => simpa using FaultSet.Within.refl _
  | stsWrite hl wv => exact stsWrite_faults _ _ s
  | intEnableWrite hl v n lane => simpa using FaultSet.Within.refl _
  | intStatusWrite hl wv => simpa using FaultSet.Within.refl _
  | interfaceIdWrite wv => simpa using FaultSet.Within.refl _

/-- What no guest transaction changes (spec/10_state.md R37, R38). -/
theorem GuestEffect.fixed {s t : State} (h : GuestEffect s t) :
    t.beTpmVersion = s.beTpmVersion ∧ t.bufferSize = s.bufferSize ∧ t.beStartupError = s.beStartupError ∧
      t.params = s.params ∧ t.inputs = s.inputs := by
  induction h with
  | answered r c h ih => exact ih
  | _ => simp

/-- The fault record only grows, whatever the instruction (spec/10_state.md R42). -/
theorem Effect.faults {i : Instr} {s t : State} (h : Effect s i t) : s.faults.Within t.faults := by
  cases h with
  | guest hi h => exact h.faults
  | completion hout hlen => simpa using FaultSet.Within.refl _
  | reset => simpa using FaultSet.Within.refl _

/-- Settles O59: guest moves by the list of guest effects; COMPLETE leaves COMPLETION, READY or the old state. -/
theorem movesFollowTheTable : Obligations.MovesFollowTheTable := by
  unfold Obligations.MovesFollowTheTable
  constructor
  · intro i s t k hi h
    cases exec_effect h with
    | guest _ hg => exact hg.guestMove k
    | completion => cases hi
    | reset => cases hi
  · intro i s t k hi h hidle
    cases exec_effect h with
    | guest _ hg => exact idle_of_guestMove_idle (hidle ▸ hg.guestMove k)
    | completion => exact completeCommand_idle hidle
    | reset => exact absurd rfl (hi _ _ _ _)

/-- Settles O60, over the list of effects: only RESET writes the version, the buffer size and the startup error. -/
theorem fixedUntilReset : Obligations.FixedUntilReset := by
  unfold Obligations.FixedUntilReset
  intro i s t h
  have he := exec_effect h
  have hfaults := he.faults
  cases he with
  | guest _ hg =>
    obtain ⟨hver, hsize, herr, hparams, hinputs⟩ := hg.fixed
    exact ⟨fun _ => ⟨hver, hsize, herr⟩, hparams, hinputs, hg.cancels, hfaults⟩
  | completion => exact ⟨fun _ => by simp, by simp, by simp, by simp, hfaults⟩
  | reset => exact ⟨fun hi => absurd rfl (hi _ _ _ _), by simp, by simp, by simp, hfaults⟩

end Sys2Proof.Machine
end

section
/-! PROOFS. The backend's invariant: EXECUTION, the outstanding command and a pending hand-over go together while no fault
has been recorded (spec/10_state.md R46 (9), spec/44_abort.md R230). -/

namespace Sys2Proof.Machine

/-- What leaves EXECUTION, the command and the pending hand-over alone keeps the invariant. -/
theorem BackendInv.congr {s t : State} (h : BackendInv s)
    (hstate : ∀ k, (t.bank k).state = .execution ↔ (s.bank k).state = .execution)
    (hout : t.beOutstanding = s.beOutstanding) (hcmd : t.cmd = s.cmd)
    (hnext : t.nextLocty ≠ none → s.nextLocty ≠ none) : BackendInv t where
  execution_outstanding k := by rw [hstate, hout, hcmd]; exact h.execution_outstanding k
  pending_outstanding hn := by rw [hout]; exact h.pending_outstanding (hnext hn)

theorem BackendInv.quiet {s : State} (h : BackendInv s) : BackendInv s.quiet :=
  h.congr (fun _ => .rfl) rfl rfl id

/-- A locality is in EXECUTION exactly while a command is outstanding. -/
theorem BackendInv.anyExecution_iff {s : State} (h : BackendInv s) : s.anyExecution = true ↔ s.beOutstanding = true := by
  rw [State.anyExecution_iff]
  constructor
  · rintro ⟨k, hk⟩
    exact ((h.execution_outstanding k).1 hk).1
  · intro hout
    exact ⟨s.cmd.locty, (h.execution_outstanding _).2 ⟨hout, rfl⟩⟩

theorem LocState.StaysOrReadies.execution_iff {a b : LocState} (h : a.StaysOrReadies b) :
    b = .execution ↔ a = .execution := by
  rcases h with rfl | ⟨ha, rfl⟩
  · rfl
  · simp [ha]

/-- A hand-over is deferred only while a command is outstanding, so its completion comes (spec/44_abort.md R230). -/
theorem BackendInv.prepAbort {s : State} (h : BackendInv s) (a : Option Locality) (n : Locality) :
    BackendInv (prepAbort a n s) where
  execution_outstanding k := by
    rw [(prepAbort_staysOrReadies a n s k).execution_iff]
    simpa using h.execution_outstanding k
  pending_outstanding hn := by
    rw [prepAbort_nextLocty] at hn
    have hexec : s.anyExecution = true := by simpa using hn
    simpa using h.anyExecution_iff.1 hexec

theorem BackendInv.accessWrite {s : State} (h : BackendInv s) (l : Locality) (wv : Word) :
    BackendInv (accessWrite l wv s) := by
  refine accessWrite_induct ?_ ?_ (fun a n u hu => hu.prepAbort a n) ?_ l wv h
  · exact fun l x u hu => hu.congr (by simp) (by simp) (by simp) (by simp)
  · exact fun l u hu => hu.congr (by simp) (by simp) (by simp) (by simp)
  · exact fun new u hu => hu.congr (by simp) (by simp) (by simp) (by simp)

theorem BackendInv.fifoWrite {s : State} (h : BackendInv s) (l : Locality) (bytes : List Byte) :
    BackendInv (fifoWrite l bytes s) := by
  refine fifoWrite_cases l bytes s h fun hl => h.congr (fun k => ?_) (by simp) (by simp) (by simp)
  simp only [appendBytes_bank, enterReception_state]
  split
  · next hk =>
    obtain ⟨rfl, hk⟩ := hk
    simp [hk]
  · rfl

theorem BackendInv.stsExtraActions {s : State} (h : BackendInv s) (l : Locality) (wv : Word) :
    BackendInv (stsExtraActions l wv s) :=
  h.congr (by simp) (by simp) (by simp) (by simp)

theorem BackendInv.commandReady {s : State} (h : BackendInv s) (l : Locality) : BackendInv (commandReady l s) := by
  unfold Machine.commandReady
  split
  · exact h.congr (by simp) (by simp) (by simp) (by simp)
  · next hl =>
    refine h.congr (fun k => ?_) (by simp) (by simp) (by simp)
    by_cases hk : k = l
    · subst hk; simp [hl]
    · simp [hk]
  · exact h.prepAbort _ _
  · exact h.prepAbort _ _
  · next hl =>
    refine h.congr (fun k => ?_) (by simp) (by simp) (by simp)
    rw [readyFromCompletion_state]
    by_cases hk : k = l
    · subst hk; simp [hl]
    · simp [hk]

/-- A submit with nothing outstanding puts exactly its locality in EXECUTION; one with a command outstanding records
BACKEND_BUSY (spec/47_backend.md R301). -/
theorem BackendInv.tpmGo {s : State} (h : BackendInv s) (l : Locality)
    (hfaults : (tpmGo l s).faults = FaultSet.empty) : BackendInv (tpmGo l s) := by
  unfold Machine.tpmGo at hfaults ⊢
  split at hfaults
  · next hgo =>
    simp only [State.setLocState_frame, submit_faults] at hfaults
    have hidle : s.beOutstanding = false := by
      cases hout : s.beOutstanding
      · rfl
      · simp [hout, FaultSet.add, FaultSet.empty] at hfaults
    have hnone : ∀ k, (s.bank k).state ≠ .execution := by simp [h.execution_outstanding, hidle]
    rw [if_pos hgo]
    constructor
    · intro k
      by_cases hk : k = l
      · simp [hk]
      · simp [hk, Ne.symm hk, hnone k]
    · simp
  · next hgo =>
    rw [if_neg hgo]
    exact h

theorem BackendInv.stsWrite {s : State} (h : BackendInv s) (l : Locality) (wv : Word)
    (hfaults : (stsWrite l wv s).faults = FaultSet.empty) : BackendInv (stsWrite l wv s) := by
  have hextra := h.stsExtraActions l wv
  refine stsWrite_cases (P := fun u => u.faults = FaultSet.empty → BackendInv u) l wv s
    (fun _ => h) (fun _ => hextra) (fun _ => hextra.commandReady l) (hextra.tpmGo l) (fun _ => ?_) hfaults
  exact hextra.congr (by simp) (by simp) (by simp) (by simp)

/-- Every guest transaction that leaves no fault recorded keeps the invariant. -/
theorem GuestEffect.keeps_backendInv {s t : State} (h : GuestEffect s t) (hs : BackendInv s)
    (hfaults : t.faults = FaultSet.empty) : BackendInv t := by
  induction h with
  | unchanged => exact hs
  | answered r c h ih => exact (ih hfaults).congr (fun _ => .rfl) rfl rfl id
  | fifoWrite hl bytes => exact hs.fifoWrite _ bytes
  | accessWrite hl wv => exact hs.accessWrite _ wv
  | stsWrite hl wv => exact hs.stsWrite _ wv hfaults
  | _ => exact hs.congr (by simp) (by simp) (by simp) (by simp)

/-- After COMPLETE nothing is outstanding and no hand-over waits. -/
theorem completeCommand_ends_request (resp : List Byte) (selftest est : Bool) (s : State) :
    (completeCommand resp selftest est s).beOutstanding = false ∧
      (completeCommand resp selftest est s).nextLocty = none := by
  unfold completeCommand
  dsimp only
  split
  · simp
  · next h =>
    have h : s.nextLocty = none := by simpa using h
    simp [h]

/-- The completion takes the submitter out of EXECUTION and ends a pending hand-over (spec/47_backend.md R296). -/
theorem BackendInv.completeCommand {s : State} (h : BackendInv s) (resp : List Byte) (selftest est : Bool) :
    BackendInv (completeCommand resp selftest est s) := by
  obtain ⟨hout, hnext⟩ := completeCommand_ends_request resp selftest est s
  refine ⟨fun k => ?_, fun hn => absurd hnext hn⟩
  rw [hout, completeCommand_state]
  have hk := h.execution_outstanding k
  split
  · simp
  · split
    · simp
    · next hne => simp [hk, Ne.symm hne]

theorem backendInv_resetDevice (ver : TpmVersion) (raw : Nat) (err est : Bool) (s : State) :
    BackendInv (resetDevice ver raw err est s) := by
  constructor
  · simp [resetDevice, Bank.reset]
  · simp [resetDevice]

/-- Settles O57: an event that leaves no fault recorded started from a state without one. -/
theorem stepKeepsBackendInv : Obligations.StepKeepsBackendInv := by
  unfold Obligations.StepKeepsBackendInv
  intro s t _ hs hstep hfaults
  obtain rfl | ⟨i, rest, he, -⟩ := step_effect hstep
  · exact hs hfaults
  · have hinv : BackendInv { s with inputs := rest } :=
      (hs (FaultSet.eq_empty_of_within he.faults hfaults)).congr (fun _ => .rfl) rfl rfl id
    cases he with
    | guest _ hg => exact hg.keeps_backendInv hinv hfaults
    | completion => exact (hinv.completeCommand ..).quiet
    | reset => exact (backendInv_resetDevice ..).quiet

end Sys2Proof.Machine
end

section
/-! PROOFS. Register masks, and the part of the device's invariant that speaks of one locality record. -/

namespace Sys2Proof.Machine

/-! ## Setting and clearing bits under a mask -/

theorem setBits_and {w : Nat} (v m c : BitVec w) : setBits v m &&& c = (v &&& c) ||| (m &&& c) := by
  ext i hi
  simp [setBits, Bool.and_or_distrib_right]

/-- Clearing bits outside a mask is not seen through it. -/
theorem clearBits_and_of_disjoint {w : Nat} (v : BitVec w) {m c : BitVec w} (h : ~~~m &&& c = c) :
    clearBits v m &&& c = v &&& c := by
  rw [clearBits, BitVec.and_assoc, h]

/-- Clearing every bit of a mask leaves nothing to see through it. -/
theorem clearBits_and_of_covered {w : Nat} (v : BitVec w) {m c : BitVec w} (h : ~~~m &&& c = 0#w) :
    clearBits v m &&& c = 0#w := by
  rw [clearBits, BitVec.and_assoc, h, BitVec.and_zero]

/-- Clearing bits sets none. -/
theorem clearBits_and_eq_zero {w : Nat} {v c : BitVec w} (m : BitVec w) (h : v &&& c = 0#w) :
    clearBits v m &&& c = 0#w := by
  rw [clearBits, BitVec.and_assoc, BitVec.and_comm (~~~m), ← BitVec.and_assoc, h, BitVec.zero_and]

theorem anySet_eq_false {w : Nat} {v m : BitVec w} : anySet v m = false ↔ v &&& m = 0#w := by
  simp [anySet]

/-! ## The ACCESS store -/

/-- What the invariant says of one ACCESS store: the fixed bits, ACTIVE_LOCALITY exactly with the owner, and no claim of
the owner's own (spec/10_state.md R27, R46 (1), (2), (6), (7)). -/
structure AccessOk (owner : Prop) (a : BitVec 8) : Prop where
  fixed : a &&& 0xC5#8 = 0x80#8
  flag : anySet a accActiveLocality = true ↔ owner
  clean : owner → anySet a accRequestUse = false ∧ anySet a accSeize = false

/-- Without ownership only the fixed bits and the flag matter. -/
theorem accessOk_of_not_owner {owner : Prop} {a : BitVec 8} (ho : ¬ owner) (hfixed : a &&& 0xC5#8 = 0x80#8)
    (hflag : a &&& accActiveLocality = 0#8) : AccessOk owner a :=
  ⟨hfixed, by simp [anySet_eq_false.2 hflag, ho], fun h => absurd h ho⟩

theorem AccessOk.inactive {owner : Prop} {a : BitVec 8} (h : AccessOk owner a) (ho : ¬ owner) :
    a &&& accActiveLocality = 0#8 := by
  rw [← anySet_eq_false, Bool.eq_false_iff]
  exact fun hflag => ho (h.flag.1 hflag)

/-- Clearing any of bits 1, 3 and 4 is harmless. -/
theorem AccessOk.clearBits {owner : Prop} {a m : BitVec 8} (h : AccessOk owner a) (hm : ~~~m &&& 0xE5#8 = 0xE5#8) :
    AccessOk owner (clearBits a m) := by
  have hfixed : ~~~m &&& 0xC5#8 = 0xC5#8 := by
    rw [show (0xC5#8 : BitVec 8) = 0xE5#8 &&& 0xC5#8 from rfl, ← BitVec.and_assoc, hm]
  have hflag : ~~~m &&& accActiveLocality = accActiveLocality := by
    rw [show accActiveLocality = 0xE5#8 &&& accActiveLocality from rfl, ← BitVec.and_assoc, hm]
  refine ⟨?_, ?_, fun ho => ?_⟩
  · rw [clearBits_and_of_disjoint a hfixed, h.fixed]
  · rw [anySet, clearBits_and_of_disjoint a hflag]
    exact h.flag
  · obtain ⟨hreq, hseize⟩ := h.clean ho
    rw [anySet_eq_false] at hreq hseize
    exact ⟨anySet_eq_false.2 (clearBits_and_eq_zero m hreq), anySet_eq_false.2 (clearBits_and_eq_zero m hseize)⟩

/-- A locality that does not own the interface may store REQUEST_USE, SEIZE or BEEN_SEIZED. -/
theorem AccessOk.setBits {owner : Prop} {a m : BitVec 8} (h : AccessOk owner a) (ho : ¬ owner) (hm : m &&& 0xE5#8 = 0#8) :
    AccessOk owner (setBits a m) := by
  have hfixed : m &&& 0xC5#8 = 0#8 := by
    rw [show (0xC5#8 : BitVec 8) = 0xE5#8 &&& 0xC5#8 from rfl, ← BitVec.and_assoc, hm, BitVec.zero_and]
  have hflag : m &&& accActiveLocality = 0#8 := by
    rw [show accActiveLocality = 0xE5#8 &&& accActiveLocality from rfl, ← BitVec.and_assoc, hm, BitVec.zero_and]
  refine accessOk_of_not_owner ho ?_ ?_
  · rw [setBits_and, h.fixed, hfixed, BitVec.or_zero]
  · rw [setBits_and, h.inactive ho, hflag, BitVec.or_zero]

/-- The new owner's ACCESS (spec/41_access.md R148). -/
theorem AccessOk.take {owner owner' : Prop} {a : BitVec 8} (h : AccessOk owner a) (ho : owner') :
    AccessOk owner' (Machine.clearBits (Machine.setBits a accActiveLocality) (accRequestUse ||| accSeize)) := by
  refine ⟨?_, ?_, fun _ => ⟨?_, ?_⟩⟩
  · rw [clearBits_and_of_disjoint _ (by decide), setBits_and, h.fixed]
    decide
  · rw [anySet, clearBits_and_of_disjoint _ (by decide), setBits_and]
    simp only [ho, iff_true, bne_iff_ne, ne_eq, BitVec.or_eq_zero_iff, not_and]
    exact fun _ => by decide
  · rw [anySet_eq_false, clearBits_and_of_covered _ (by decide)]
  · rw [anySet_eq_false, clearBits_and_of_covered _ (by decide)]

/-- The old owner's ACCESS, seized or released (spec/41_access.md R148). -/
theorem AccessOk.drop {owner owner' : Prop} {s : State} {old : Locality} (new : Option Locality)
    (h : AccessOk owner (s.bank old).access) (ho : ¬ owner') : AccessOk owner' (oldOwnerAccess s old new) := by
  have hactive : ∀ m : BitVec 8, ~~~m &&& 0xC5#8 = 0xC5#8 → ~~~m &&& accActiveLocality = 0#8 →
      AccessOk owner' (Machine.clearBits (s.bank old).access m) := fun m hfixed hflag =>
    accessOk_of_not_owner ho (by rw [clearBits_and_of_disjoint _ hfixed, h.fixed]) (clearBits_and_of_covered _ hflag)
  unfold oldOwnerAccess
  dsimp only
  split_ifs
  · exact (hactive accActiveLocality (by decide) (by decide)).setBits (m := accBeenSeized) ho (by decide)
  · exact hactive (accActiveLocality ||| accRequestUse) (by decide) (by decide)

/-- ACCESS of every locality after a hand-over, by who it was and who it is (spec/41_access.md R148). -/
theorem handOver_access (new : Option Locality) (s : State) (k : Locality) :
    ((takeOwnership new (dropOldOwner new s)).bank k).access =
      if new = some k then clearBits (setBits (s.bank k).access accActiveLocality) (accRequestUse ||| accSeize)
      else if s.activeLocty = some k then oldOwnerAccess s k new
      else (s.bank k).access := by
  have hdrop : ((dropOldOwner new s).bank k).access =
      if s.activeLocty = some k ∧ new ≠ some k then oldOwnerAccess s k new else (s.bank k).access := by
    unfold dropOldOwner
    split
    · next old hold =>
      by_cases hk : k = old
      · subst hk
        by_cases hn : new = some k
        · simp [hold, hn]
        · simp [hold, hn, Ne.symm hn]
      · split <;> simp [hold, hk, Ne.symm hk]
    · next hnone => simp [hnone]
  have htake : ((takeOwnership new (dropOldOwner new s)).bank k).access =
      if new = some k then clearBits (setBits ((dropOldOwner new s).bank k).access accActiveLocality)
        (accRequestUse ||| accSeize)
      else ((dropOldOwner new s).bank k).access := by
    unfold takeOwnership
    dsimp only
    split
    · next n =>
      by_cases hk : k = n
      · subst hk; simp
      · simp [hk, Ne.symm hk]
    · simp
  rw [htake, hdrop]
  by_cases hn : new = some k <;> simp [hn]

/-! ## One locality record -/

/-- What the invariant says of one locality record but its INTERFACE_ID and its protocol state (spec/10_state.md R27, R29,
R31, R32). -/
structure BankOk (ver : TpmVersion) (owner : Prop) (b : Bank) : Prop where
  access : AccessOk owner b.access
  sts : b.sts &&& 0xFFFFFF23#32 = stsReset ver
  ints : b.ints &&& 0xFFFFFF78#32 = 0#32
  inte : b.inte &&& 0x7FFFFF60#32 = 0#32

theorem DeviceInv.bankOk {s : State} (h : DeviceInv s) (k : Locality) :
    BankOk s.beTpmVersion (s.activeLocty = some k) (s.bank k) where
  access := ⟨h.access_fixed k, h.owner_flag k, h.owner_clean k⟩
  sts := h.sts_fixed k
  ints := h.ints_supported k
  inte := h.inte_writable k

/-! Locality 4 is passive (spec/40_dispatch.md R123). -/

theorem DeviceInv.owner_ne_four {s : State} (h : DeviceInv s) : s.activeLocty ≠ some 4 := h.locality4_passive.1

theorem DeviceInv.next_ne_four {s : State} (h : DeviceInv s) : s.nextLocty ≠ some 4 := h.locality4_passive.2.1

theorem DeviceInv.access_four {s : State} (h : DeviceInv s) : (s.bank 4).access = accRegValidSts := h.locality4_passive.2.2

theorem BankOk.withAccess {ver : TpmVersion} {owner owner' : Prop} {b : Bank} {a : BitVec 8} (h : BankOk ver owner b)
    (ha : AccessOk owner' a) : BankOk ver owner' { b with access := a } :=
  { h with access := ha }

/-- The status-set primitive keeps the family field, which is all that SELFTEST_DONE and the flags do not hold
(spec/10_state.md R44). -/
theorem stsReplace_fixed {ver : TpmVersion} {sts flags : Word} (h : sts &&& 0xFFFFFF23#32 = stsReset ver)
    (hf : flags &&& 0xFFFFFF23#32 = 0#32) : stsReplace sts flags &&& 0xFFFFFF23#32 = stsReset ver := by
  have hpersist : sts &&& stsPersist &&& 0xFFFFFF23#32 = (sts &&& 0xFFFFFF23#32) &&& stsPersist := by
    rw [BitVec.and_assoc, BitVec.and_comm stsPersist, ← BitVec.and_assoc]
  rw [show stsReplace sts flags = setBits (sts &&& stsPersist) flags from rfl, setBits_and, hf, hpersist, h]
  cases ver <;> decide

/-- The record right after a reset (spec/70_reset_and_hazards.md R352). -/
theorem bankOk_reset (ver : TpmVersion) {owner : Prop} (ho : ¬ owner) : BankOk ver owner (Bank.reset ver) where
  access := accessOk_of_not_owner ho (by cases ver <;> decide) (by cases ver <;> decide)
  sts := by cases ver <;> decide
  ints := by cases ver <;> decide
  inte := by cases ver <;> decide

end Sys2Proof.Machine
end

section
/-! PROOFS. The device's invariant under each operation on the locality records, the cursor and the hand-over. -/

namespace Sys2Proof.Machine

/-- What the invariant reads outside the locality records, the owner apart, is the same. -/
structure SameControl (s t : State) : Prop where
  buffer : t.buffer = s.buffer
  bufferSize : t.bufferSize = s.bufferSize
  rwOffset : t.rwOffset = s.rwOffset
  beTpmVersion : t.beTpmVersion = s.beTpmVersion
  nextLocty : t.nextLocty = s.nextLocty
  abortingLocty : t.abortingLocty = s.abortingLocty
  beOutstanding : t.beOutstanding = s.beOutstanding
  cmd : t.cmd = s.cmd
  beIn : t.beIn = s.beIn

/-- A locality may be the one of a pending self-abort only in RECEPTION or EXECUTION (spec/44_abort.md R235). -/
def State.SelfAbortOk (s : State) (k : Locality) (x : LocState) : Prop :=
  s.nextLocty = some k → s.abortingLocty = some k → x = .reception ∨ x = .execution

/-- The rule for an operation on the locality records and the owner: the records are checked one by one. -/
theorem DeviceInv.of_banks {s t : State} (h : DeviceInv s) (hc : SameControl s t)
    (hbank : ∀ k, BankOk s.beTpmVersion (t.activeLocty = some k) (t.bank k))
    (hiface : ∀ k, (t.bank k).ifaceId = (s.bank k).ifaceId)
    (hpassive : t.activeLocty ≠ some 4) (haccess : (t.bank 4).access = (s.bank 4).access)
    (hstate : ∀ k, s.SelfAbortOk k (t.bank k).state) : DeviceInv t where
  buffer_wf := by rw [hc.buffer]; exact h.buffer_wf
  size_pos := by rw [hc.bufferSize]; exact h.size_pos
  cursor_bound := by rw [hc.bufferSize, hc.rwOffset]; exact h.cursor_bound
  owner_flag k := (hbank k).access.flag
  owner_clean k := (hbank k).access.clean
  access_fixed k := (hbank k).access.fixed
  sts_fixed k := by rw [hc.beTpmVersion]; exact (hbank k).sts
  ints_supported k := (hbank k).ints
  inte_writable k := (hbank k).inte
  iface_equal k := by rw [hiface, hiface]; exact h.iface_equal k
  iface_value := by rw [hiface, hc.beTpmVersion]; exact h.iface_value
  locality4_passive := ⟨hpassive, by rw [hc.nextLocty]; exact h.next_ne_four,
    by rw [haccess]; exact h.access_four⟩
  aborting_pending := by rw [hc.nextLocty, hc.abortingLocty]; exact h.aborting_pending
  self_abort_state := by rw [hc.nextLocty, hc.abortingLocty]; exact hstate
  out_cap := by rw [hc.beOutstanding, hc.cmd, hc.bufferSize]; exact h.out_cap
  in_len := by rw [hc.beOutstanding, hc.beIn, hc.cmd, hc.bufferSize]; exact h.in_len

/-- The rule for replacing one record. -/
theorem DeviceInv.setBank {s : State} (h : DeviceInv s) {l : Locality} {b : Bank}
    (hb : BankOk s.beTpmVersion (s.activeLocty = some l) b) (hiface : b.ifaceId = (s.bank l).ifaceId)
    (haccess : l = 4 → b.access = (s.bank l).access) (hstate : s.SelfAbortOk l b.state) : DeviceInv (s.setBank l b) := by
  refine h.of_banks ⟨rfl, rfl, rfl, rfl, rfl, rfl, rfl, rfl, rfl⟩ (fun k => ?_) (fun k => ?_) h.owner_ne_four ?_
    (fun k => ?_)
  · rw [State.bank_setBank]
    split
    · next hk => exact hk ▸ hb
    · exact h.bankOk k
  · rw [State.bank_setBank]
    split
    · next hk => exact hk ▸ hiface
    · rfl
  · rw [State.bank_setBank]
    split
    · next hk => rw [haccess hk.symm, hk]
    · rfl
  · rw [State.bank_setBank]
    split
    · next hk => exact hk ▸ hstate
    · exact h.self_abort_state k

theorem DeviceInv.setLocState {s : State} (h : DeviceInv s) {l : Locality} {x : LocState} (hx : s.SelfAbortOk l x) :
    DeviceInv (s.setLocState l x) :=
  h.setBank { h.bankOk l with } rfl (fun _ => rfl) hx

theorem DeviceInv.setAccess {s : State} (h : DeviceInv s) {l : Locality} (hl : l ≠ 4) {x : BitVec 8}
    (hx : AccessOk (s.activeLocty = some l) x) : DeviceInv (s.setAccess l x) :=
  h.setBank ((h.bankOk l).withAccess hx) rfl (fun h4 => absurd h4 hl) (h.self_abort_state l)

theorem DeviceInv.setStsStore {s : State} (h : DeviceInv s) {l : Locality} {x : Word}
    (hx : x &&& 0xFFFFFF23#32 = stsReset s.beTpmVersion) : DeviceInv (s.setStsStore l x) :=
  h.setBank { h.bankOk l with sts := hx } rfl (fun _ => rfl) (h.self_abort_state l)

theorem DeviceInv.setInte {s : State} (h : DeviceInv s) {l : Locality} {x : Word} (hx : x &&& 0x7FFFFF60#32 = 0#32) :
    DeviceInv (s.setInte l x) :=
  h.setBank { h.bankOk l with inte := hx } rfl (fun _ => rfl) (h.self_abort_state l)

theorem DeviceInv.setInts {s : State} (h : DeviceInv s) {l : Locality} {x : Word} (hx : x &&& 0xFFFFFF78#32 = 0#32) :
    DeviceInv (s.setInts l x) :=
  h.setBank { h.bankOk l with ints := hx } rfl (fun _ => rfl) (h.self_abort_state l)

/-- The line is in no part of the invariant. -/
theorem DeviceInv.withLine {s : State} (h : DeviceInv s) (line : Bool) : DeviceInv { s with irqLine := line } :=
  { h with }

theorem DeviceInv.answered {s : State} (h : DeviceInv s) (r : Reply) (c : Nat) :
    DeviceInv { s with reply := r, freeCount := c } :=
  { h with }

theorem DeviceInv.quiet {s : State} (h : DeviceInv s) : DeviceInv s.quiet := { h with }

theorem DeviceInv.recordFault {s : State} (h : DeviceInv s) (r : FaultReason) : DeviceInv (recordFault r s) := { h with }

theorem DeviceInv.backendCancel {s : State} (h : DeviceInv s) : DeviceInv (backendCancel s) := { h with }

theorem DeviceInv.resetEstablished {s : State} (h : DeviceInv s) : DeviceInv (resetEstablished s) := { h with }

theorem DeviceInv.setOffset {s : State} (h : DeviceInv s) {x : BitVec 16} (hx : x.toNat ≤ s.bufferSize.val) :
    DeviceInv { s with rwOffset := x } :=
  { h with cursor_bound := hx }

theorem DeviceInv.rewind {s : State} (h : DeviceInv s) : DeviceInv { s with rwOffset := 0#16 } :=
  h.setOffset (Nat.zero_le _)

theorem DeviceInv.stsSet {s : State} (h : DeviceInv s) (l : Locality) {flags : Word}
    (hf : flags &&& 0xFFFFFF23#32 = 0#32) : DeviceInv (stsSet l flags s) :=
  h.setStsStore (stsReplace_fixed (h.sts_fixed l) hf)

theorem DeviceInv.raiseIrq {s : State} (h : DeviceInv s) (l : Option Locality) {mask : Word}
    (hm : mask &&& 0xFFFFFF78#32 = 0#32) : DeviceInv (raiseIrq l mask s) := by
  unfold Machine.raiseIrq
  split
  · exact h
  · split
    · refine (h.setInts ?_).withLine true
      rw [setBits_and, h.ints_supported, hm, BitVec.or_zero]
    · exact h

theorem DeviceInv.ackIrq {s : State} (h : DeviceInv s) (l : Locality) (wv : Word) : DeviceInv (ackIrq l wv s) := by
  have hack : DeviceInv (s.setInts l (clearBits (s.bank l).ints (wv &&& interruptsSupported))) :=
    h.setInts (clearBits_and_eq_zero _ (h.ints_supported l))
  unfold Machine.ackIrq
  dsimp only
  split
  · split
    · exact hack.withLine false
    · exact hack
  · exact hack

/-! ## Hand-over and abort -/

theorem DeviceInv.newActiveLocality {s : State} (h : DeviceInv s) {new : Option Locality} (hn : new ≠ some 4) :
    DeviceInv (newActiveLocality new s) := by
  have h4 := h.owner_ne_four
  suffices hown : DeviceInv (takeOwnership new (dropOldOwner new s)) by
    unfold Machine.newActiveLocality
    dsimp only
    split
    · exact hown.raiseIrq new (by decide)
    · exact hown
  refine h.of_banks (by constructor <;> simp) (fun k => ?_) (by simp) (by simpa using hn)
    (by simp [handOver_access, hn, h4]) (fun k => by simpa [State.SelfAbortOk] using h.self_abort_state k)
  have hk := h.bankOk k
  refine ⟨?_, by simpa using hk.sts, by simpa using hk.ints, by simpa using hk.inte⟩
  simp only [handOver_access, takeOwnership_keeps]
  split
  · exact hk.access.take ‹_›
  · split
    · exact hk.access.drop new ‹_›
    · exact ⟨hk.access.fixed, by simpa [*] using hk.access.flag, fun ho => absurd ho ‹_›⟩

/-- The state with no hand-over pending, as `abort` leaves it. The locality of a self-abort is READY before `abort` clears
the pending pair, so the invariant is followed on this state: every operation of `abort` commutes with it. -/
def State.clearPending (s : State) : State := { s with nextLocty := none, abortingLocty := none }

theorem clearPending_raiseIrq (l : Option Locality) (m : Word) (s : State) :
    (raiseIrq l m s).clearPending = raiseIrq l m s.clearPending := by
  cases l with
  | none => rfl
  | some l => exact apply_ite State.clearPending _ _ _

theorem clearPending_selfAbort (x : Locality) (s : State) :
    (selfAbort x s).clearPending = selfAbort x s.clearPending :=
  clearPending_raiseIrq _ _ _

theorem clearPending_dropOldOwner (new : Option Locality) (s : State) :
    (dropOldOwner new s).clearPending = dropOldOwner new s.clearPending := by
  have hactive : s.clearPending.activeLocty = s.activeLocty := rfl
  unfold dropOldOwner
  rw [hactive]
  split
  · exact apply_ite State.clearPending _ _ _
  · rfl

theorem clearPending_takeOwnership (new : Option Locality) (s : State) :
    (takeOwnership new s).clearPending = takeOwnership new s.clearPending := by
  cases new <;> rfl

theorem clearPending_newActiveLocality (new : Option Locality) (s : State) :
    (newActiveLocality new s).clearPending = newActiveLocality new s.clearPending := by
  unfold newActiveLocality
  dsimp only
  rw [apply_ite State.clearPending, clearPending_raiseIrq, clearPending_takeOwnership, clearPending_dropOldOwner]
  rfl

theorem DeviceInv.clearPending {s : State} (h : DeviceInv s) : DeviceInv s.clearPending :=
  { h with
    locality4_passive := ⟨h.owner_ne_four, nofun, h.access_four⟩
    aborting_pending := fun _ => rfl
    self_abort_state := nofun }

theorem DeviceInv.selfAbort {s : State} (h : DeviceInv s) {x : Locality} (hx : s.SelfAbortOk x .ready) :
    DeviceInv (selfAbort x s) :=
  ((h.setLocState hx).stsSet x (by decide)).raiseIrq (some x) (by decide)

/-- `abort` needs the invariant only of the state without its pending pair. -/
theorem DeviceInv.abort {s : State} (h : DeviceInv s.clearPending) (hn : s.nextLocty ≠ some 4) :
    DeviceInv (abort s) := by
  have finish : ∀ u : State, u.nextLocty = s.nextLocty → DeviceInv u.clearPending →
      DeviceInv (Machine.newActiveLocality u.nextLocty u).clearPending := fun u hu hinv => by
    rw [clearPending_newActiveLocality]
    exact hinv.newActiveLocality (hu ▸ hn)
  unfold Machine.abort
  dsimp only
  split
  · split
    · refine finish _ (by simp) ?_
      rw [clearPending_selfAbort]
      exact h.rewind.selfAbort nofun
    · exact finish _ rfl h.rewind
  · exact finish _ rfl h.rewind

/-- A hand-over may be asked for to any locality but 4, by its own owner only from RECEPTION or EXECUTION. -/
theorem DeviceInv.prepAbort {s : State} (h : DeviceInv s) {a : Option Locality} {n : Locality} (hn : n ≠ 4)
    (hself : a = some n → (s.bank n).state = .reception ∨ (s.bank n).state = .execution) :
    DeviceInv (prepAbort a n s) := by
  have hn4 : some n ≠ some (4 : Locality) := by simpa using hn
  cases hexec : s.anyExecution
  · rw [prepAbort_now hexec]
    exact DeviceInv.abort (s := { s with abortingLocty := a, nextLocty := some n }) h.clearPending hn4
  · rw [prepAbort_deferred hexec]
    have hpending : DeviceInv { s with abortingLocty := a, nextLocty := some n } :=
      { h with
        locality4_passive := ⟨h.owner_ne_four, hn4, h.access_four⟩
        aborting_pending := nofun
        self_abort_state := fun l hl ha => by
          obtain rfl : n = l := Option.some.inj hl
          exact hself ha }
    exact hpending.backendCancel

end Sys2Proof.Machine
end

section
/-! PROOFS. The device's invariant under the registers' operations and the events, and under every step. -/

namespace Sys2Proof.Machine

/-! ## The FIFO -/

/-- A byte below the capacity keeps the buffer canonical and the cursor in bounds. -/
theorem DeviceInv.append {s : State} (h : DeviceInv s) (hlt : s.rwOffset.toNat < s.bufferSize.val) (b : Byte) :
    DeviceInv { s with buffer := Memory.write s.buffer s.rwOffset.toNat b, rwOffset := s.rwOffset + 1#16 } := by
  have hsize : s.bufferSize.val < 4097 := s.bufferSize.isLt
  exact { h with
    buffer_wf := Memory.wf_write b h.buffer_wf (by simp only [Config.bufferMax]; omega)
    cursor_bound := show (s.rwOffset + 1#16).toNat ≤ s.bufferSize.val by bv_omega }

theorem DeviceInv.storeByte {s : State} (h : DeviceInv s) (hlt : s.rwOffset.toNat < s.bufferSize.val) (b : Byte) :
    DeviceInv (storeByte b s) := by
  unfold Machine.storeByte
  dsimp only
  split
  · exact (h.recordFault .bufferRace).append hlt b
  · exact h.append hlt b

theorem DeviceInv.checkComplete {s : State} (h : DeviceInv s) (l : Locality) : DeviceInv (checkComplete l s) := by
  have hmore := h.stsSet l (flags := stsExpect ||| stsValid) (by decide)
  have hfull := h.stsSet l (flags := stsValid) (by decide)
  unfold Machine.checkComplete
  dsimp only
  split
  · split_ifs
    · exact hmore.raiseIrq (some l) (by decide)
    · exact hfull.raiseIrq (some l) (by decide)
    · exact hmore
    · exact hfull
  · exact h

theorem DeviceInv.appendBytes {s : State} (h : DeviceInv s) (l : Locality) (bs : List Byte) :
    DeviceInv (appendBytes l bs s) := by
  induction bs generalizing s with
  | nil => exact h
  | cons b bs ih =>
    unfold Machine.appendBytes
    split
    · split
      · exact ih ((h.storeByte ‹_› b).checkComplete l)
      · exact h.stsSet l (by decide)
    · exact h

theorem DeviceInv.enterReception {s : State} (h : DeviceInv s) (l : Locality) : DeviceInv (enterReception l s) := by
  unfold Machine.enterReception
  split
  · exact (h.setLocState fun _ _ => .inl rfl).stsSet l (by decide)
  · exact h

theorem DeviceInv.fifoWrite {s : State} (h : DeviceInv s) (l : Locality) (bytes : List Byte) :
    DeviceInv (fifoWrite l bytes s) :=
  fifoWrite_cases l bytes s h fun _ => (h.enterReception l).appendBytes l bytes

theorem DeviceInv.takeByte {s : State} (h : DeviceInv s) : DeviceInv (takeByte s).2 := by
  unfold Machine.takeByte
  split
  · next hlt =>
    have hsize : s.bufferSize.val < 4097 := s.bufferSize.isLt
    exact h.setOffset (show (s.rwOffset + 1#16).toNat ≤ s.bufferSize.val by bv_omega)
  · exact h

theorem DeviceInv.endResponse {s : State} (h : DeviceInv s) (l : Locality) : DeviceInv (endResponse l s) := by
  unfold Machine.endResponse
  split
  · exact (h.stsSet l (by decide)).raiseIrq (some l) (by decide)
  · exact h

theorem DeviceInv.readByte {s : State} (h : DeviceInv s) (l : Locality) : DeviceInv (readByte l s).2 := by
  unfold Machine.readByte
  split
  · exact h.takeByte.endResponse l
  · exact h

theorem DeviceInv.readBytes {s : State} (h : DeviceInv s) (l : Locality) (k : Nat) : DeviceInv (readBytes l k s).2 := by
  induction k generalizing s with
  | zero => exact h
  | succ k ih => exact ih (h.readByte l)

theorem DeviceInv.fifoRead {s : State} (h : DeviceInv s) (n : Width) (lane : BitVec 2) (l : Locality) :
    DeviceInv (fifoRead n lane l s).2 := by
  unfold Machine.fifoRead
  split
  · exact h.readBytes l _
  · exact h

/-! ## The status register -/

theorem DeviceInv.cancelAction {s : State} (h : DeviceInv s) (l : Locality) : DeviceInv (cancelAction l s) := by
  unfold Machine.cancelAction
  split
  · exact h.backendCancel
  · exact h

theorem DeviceInv.resetEstAction {s : State} (h : DeviceInv s) (l : Locality) : DeviceInv (resetEstAction l s) := by
  unfold Machine.resetEstAction
  split
  · exact h.resetEstablished
  · exact h

theorem DeviceInv.stsExtraActions {s : State} (h : DeviceInv s) (l : Locality) (wv : Word) :
    DeviceInv (stsExtraActions l wv s) := by
  unfold Machine.stsExtraActions
  dsimp only
  split
  · split <;> split
    · exact (h.cancelAction l).resetEstAction l
    · exact h.resetEstAction l
    · exact h.cancelAction l
    · exact h
  · exact h

/-- No self-abort is pending of a locality in a third state, so it may move anywhere. -/
theorem DeviceInv.selfAbortOk {s : State} (h : DeviceInv s) {l : Locality} (hrec : (s.bank l).state ≠ .reception)
    (hexec : (s.bank l).state ≠ .execution) (x : LocState) : s.SelfAbortOk l x := fun hn ha =>
  (h.self_abort_state l hn ha).elim (fun hs => absurd hs hrec) fun hs => absurd hs hexec

theorem DeviceInv.readyFromCompletion {s : State} (h : DeviceInv s) {l : Locality}
    (hl : (s.bank l).state = .completion) : DeviceInv (readyFromCompletion l s) := by
  have hready : DeviceInv (({ s with rwOffset := 0#16 } : State).setLocState l .ready) :=
    h.rewind.setLocState (h.selfAbortOk (by simp [hl]) (by simp [hl]) _)
  have hdone : ∀ {u : State}, DeviceInv u →
      DeviceInv (u.setStsStore l (clearBits (u.bank l).sts stsDataAvailable)) := fun {u} hu => by
    refine hu.setStsStore ?_
    rw [clearBits_and_of_disjoint _ (by decide), hu.sts_fixed]
  unfold Machine.readyFromCompletion
  dsimp only
  split
  · exact hdone hready
  · exact hdone ((hready.stsSet l (by decide)).raiseIrq (some l) (by decide))

theorem DeviceInv.commandReady {s : State} (h : DeviceInv s) {l : Locality} (hl : l ≠ 4) :
    DeviceInv (commandReady l s) := by
  unfold Machine.commandReady
  split
  · exact h.rewind
  · next hidle =>
    have hflags := h.stsSet l (flags := stsCommandReady) (by decide)
    exact (hflags.setLocState (hflags.selfAbortOk (by simp [hidle]) (by simp [hidle]) _)).raiseIrq (some l) (by decide)
  · exact h.prepAbort hl fun _ => .inl ‹_›
  · exact h.prepAbort hl fun _ => .inr ‹_›
  · exact h.readyFromCompletion ‹_›

theorem DeviceInv.submit {s : State} (h : DeviceInv s) (l : Locality) : DeviceInv (submit l s) := by
  have hsubmit : ∀ {u : State}, DeviceInv u → DeviceInv { u with
      cmd := { locty := l, inLen := u.rwOffset, outCap := u.bufferSize }
      beIn := Memory.readFirst u.buffer u.rwOffset.toNat
      beOutstanding := true } := fun hu =>
    { hu with
      out_cap := fun _ => rfl
      in_len := fun _ => ⟨by simp [Memory.readFirst], hu.cursor_bound⟩ }
  unfold Machine.submit
  dsimp only
  split
  · exact hsubmit (h.recordFault .backendBusy)
  · exact hsubmit h

theorem DeviceInv.tpmGo {s : State} (h : DeviceInv s) (l : Locality) : DeviceInv (tpmGo l s) := by
  unfold Machine.tpmGo
  split
  · exact (h.submit l).setLocState fun _ _ => .inr rfl
  · exact h

theorem DeviceInv.responseRetry {s : State} (h : DeviceInv s) (l : Locality) : DeviceInv (responseRetry l s) := by
  unfold Machine.responseRetry
  split
  · exact h.rewind.stsSet l (by decide)
  · exact h

theorem DeviceInv.stsWrite {s : State} (h : DeviceInv s) {l : Locality} (hl : l ≠ 4) (wv : Word) :
    DeviceInv (stsWrite l wv s) := by
  have hextra := h.stsExtraActions l wv
  exact stsWrite_cases l wv s h hextra (hextra.commandReady hl) (hextra.tpmGo l) (hextra.responseRetry l)

/-! ## The ACCESS register -/

/-- The stored requester is no owner and is not locality 4. -/
theorem DeviceInv.highestRequester {s : State} (h : DeviceInv s) {n : Locality} (hn : s.highestRequester = some n) :
    n ≠ 4 ∧ s.activeLocty ≠ some n := by
  have hreq : anySet (s.bank n).access accRequestUse = true :=
    List.find?_some (p := fun k => anySet (s.bank k).access accRequestUse) hn
  refine ⟨fun h4 => ?_, fun ho => ?_⟩
  · rw [h4, h.access_four] at hreq
    exact absurd hreq (by decide)
  · simp [(h.owner_clean n ho).1] at hreq

theorem State.owner_lt_of_maySeize {s : State} {l a : Locality} (h : s.maySeize l = true) (ha : s.activeLocty = some a) :
    a < l := by
  simpa [State.maySeize, ha] using h

theorem DeviceInv.recordSeize {s : State} (h : DeviceInv s) {l : Locality} (hl : l ≠ 4) (ho : s.activeLocty ≠ some l) :
    DeviceInv (recordSeize l s) := by
  have hbelow : ¬ (4 : Locality) < l := Fin.not_lt.2 (Fin.le_last l)
  refine h.of_banks (by constructor <;> simp) (fun k => ?_) (by simp) (by simpa using h.owner_ne_four)
    (by simp [Ne.symm hl, hbelow]) (fun k => by simpa [State.SelfAbortOk] using h.self_abort_state k)
  have hk := h.bankOk k
  refine ⟨?_, by simpa using hk.sts, by simpa using hk.ints, by simpa using hk.inte⟩
  simp only [recordSeize_bank, recordSeize_keeps]
  split
  · next heq =>
    subst heq
    exact hk.access.setBits ho (by decide)
  · split
    · exact hk.access.clearBits (by decide)
    · exact hk.access

/-- What the steps of an ACCESS write keep: the device's invariant, and a candidate that is not locality 4. -/
structure AccessWork.Inv (w : AccessWork) : Prop where
  st : DeviceInv w.st
  cand : w.cand ≠ some 4

theorem AccessWork.Inv.clearAccess {w : AccessWork} (h : w.Inv) {l : Locality} (hl : l ≠ 4) {m : BitVec 8}
    (hm : ~~~m &&& 0xE5#8 = 0xE5#8) :
    AccessWork.Inv { w with st := w.st.setAccess l (clearBits (w.st.bank l).access m) } :=
  ⟨h.st.setAccess hl ((h.st.bankOk l).access.clearBits hm), h.cand⟩

theorem AccessWork.Inv.step2 {w : AccessWork} (h : w.Inv) {l : Locality} (hl : l ≠ 4) (b : BitVec 8) :
    (accessStep2 l b w).Inv := by
  unfold accessStep2
  split
  · split
    · next howner =>
      split
      · next n hn =>
        obtain ⟨hn4, hne⟩ := h.st.highestRequester hn
        exact ⟨h.st.prepAbort hn4 fun hln => absurd (howner.trans hln) hne, h.cand⟩
      · exact ⟨h.st, nofun⟩
    · exact h.clearAccess hl (by decide)
  · exact h

theorem AccessWork.Inv.step3 {w : AccessWork} (h : w.Inv) {l : Locality} (hl : l ≠ 4) (b : BitVec 8) :
    (accessStep3 l b w).Inv := by
  unfold accessStep3
  split
  · exact h.clearAccess hl (by decide)
  · exact h

theorem AccessWork.Inv.step4 {w : AccessWork} (h : w.Inv) {l : Locality} (hl : l ≠ 4) (b : BitVec 8) :
    (accessStep4 l b w).Inv := by
  unfold accessStep4
  split
  · next hseize =>
    have hmay : w.st.maySeize l = true := by
      simp only [Bool.and_eq_true] at hseize
      obtain ⟨⟨⟨_, hmay⟩, _⟩, _⟩ := hseize
      exact hmay
    have hnot : w.st.activeLocty ≠ some l := fun ho => absurd (State.owner_lt_of_maySeize hmay ho) (lt_irrefl l)
    exact ⟨(h.st.recordSeize hl hnot).prepAbort hl fun ho => absurd ho hnot, h.cand⟩
  · exact h

theorem AccessWork.Inv.step5 {w : AccessWork} (h : w.Inv) {l : Locality} (hl : l ≠ 4) (b : BitVec 8) :
    (accessStep5 l b w).Inv := by
  unfold accessStep5
  split
  · next hreq =>
    have hnot : w.st.activeLocty ≠ some l := by
      simp only [Bool.and_eq_true, decide_eq_true_eq] at hreq
      exact hreq.2
    split
    · exact ⟨h.st.setAccess hl ((h.st.bankOk l).access.setBits hnot (by decide)), h.cand⟩
    · exact ⟨h.st, by simpa using hl⟩
  · exact h

theorem AccessWork.Inv.finish {w : AccessWork} (h : w.Inv) : DeviceInv (accessFinish w) := by
  unfold accessFinish
  split
  · exact h.st
  · exact h.st.newActiveLocality h.cand

theorem DeviceInv.accessWrite {s : State} (h : DeviceInv s) {l : Locality} (hl : l ≠ 4) (wv : Word) :
    DeviceInv (accessWrite l wv s) := by
  have hstart : AccessWork.Inv { st := s, cand := s.activeLocty, deferred := false } := ⟨h, h.owner_ne_four⟩
  exact ((((hstart.step2 hl _).step3 hl _).step4 hl _).step5 hl _).finish

/-! ## Interrupt and identification registers -/

/-- The kept bits were writable before, the written ones are (spec/45_interrupt_regs.md R251). -/
theorem DeviceInv.intEnableWrite {s : State} (h : DeviceInv s) (l : Locality) (wv keep : Word) :
    DeviceInv (intEnableWrite l wv keep s) := by
  unfold Machine.intEnableWrite
  split
  · have hwritten : wv &&& inteWritable &&& 0x7FFFFF60#32 = 0#32 := by
      rw [BitVec.and_assoc, show inteWritable &&& 0x7FFFFF60#32 = 0#32 by decide, BitVec.and_zero]
    have hkept : (s.bank l).inte &&& keep &&& 0x7FFFFF60#32 = 0#32 := by
      rw [BitVec.and_assoc, BitVec.and_comm keep, ← BitVec.and_assoc, h.inte_writable, BitVec.zero_and]
    refine h.setInte ?_
    rw [← setBits, setBits_and, hkept, hwritten, BitVec.or_zero]
  · exact h

theorem DeviceInv.intStatusWrite {s : State} (h : DeviceInv s) (l : Locality) (wv : Word) :
    DeviceInv (intStatusWrite l wv s) := by
  unfold Machine.intStatusWrite
  split
  · exact h.ackIrq l wv
  · exact h

theorem interfaceIdWrite_ifaceId (wv : Word) (s : State) (k : Locality) :
    ((interfaceIdWrite wv s).bank k).ifaceId =
      if anySet wv ifaceIntSelLock then (s.bank k).ifaceId ||| ifaceIntSelLock else (s.bank k).ifaceId := by
  unfold interfaceIdWrite
  split <;> simp [setBits]

/-- INT_SEL_LOCK reaches all five INTERFACE_ID values at once (spec/46_id_regs.md R275). -/
theorem DeviceInv.interfaceIdWrite {s : State} (h : DeviceInv s) (wv : Word) : DeviceInv (interfaceIdWrite wv s) where
  buffer_wf := by simpa using h.buffer_wf
  size_pos := by simpa using h.size_pos
  cursor_bound := by simpa using h.cursor_bound
  owner_flag := by simpa using h.owner_flag
  owner_clean := by simpa using h.owner_clean
  access_fixed := by simpa using h.access_fixed
  sts_fixed := by simpa using h.sts_fixed
  ints_supported := by simpa using h.ints_supported
  inte_writable := by simpa using h.inte_writable
  iface_equal k := by rw [interfaceIdWrite_ifaceId, interfaceIdWrite_ifaceId, h.iface_equal k]
  iface_value := by
    simp only [interfaceIdWrite_ifaceId, interfaceIdWrite_keeps]
    split
    · right
      rcases h.iface_value with hv | hv <;> simp [hv, BitVec.or_assoc]
    · exact h.iface_value
  locality4_passive := by simpa using h.locality4_passive
  aborting_pending := by simpa using h.aborting_pending
  self_abort_state := by simpa using h.self_abort_state
  out_cap := by simpa using h.out_cap
  in_len := by simpa using h.in_len

/-- No guest transaction breaks the device's invariant. -/
theorem GuestEffect.keeps_deviceInv {s t : State} (h : GuestEffect s t) (hs : DeviceInv s) : DeviceInv t := by
  induction h with
  | unchanged => exact hs
  | answered r c h ih => exact ih.answered r c
  | widthFault => exact hs.recordFault _
  | fifoRead n lane l => exact hs.fifoRead n lane l
  | fifoWrite hl bytes => exact hs.fifoWrite _ bytes
  | accessWrite hl wv => exact hs.accessWrite hl wv
  | stsWrite hl wv => exact hs.stsWrite hl wv
  | intEnableWrite hl v n lane => exact hs.intEnableWrite _ _ _
  | intStatusWrite hl wv => exact hs.intStatusWrite _ wv
  | interfaceIdWrite wv => exact hs.interfaceIdWrite wv

/-! ## The events -/

theorem DeviceInv.markSelftest {s : State} (h : DeviceInv s) (selftest : Bool) : DeviceInv (markSelftest selftest s) := by
  refine h.of_banks (by constructor <;> simp) (fun k => ?_) (by simp) (by simpa using h.owner_ne_four) (by simp)
    (fun k => by simpa [State.SelfAbortOk] using h.self_abort_state k)
  have hk := h.bankOk k
  refine ⟨by simpa using hk.access, ?_, by simpa using hk.ints, by simpa using hk.inte⟩
  rw [markSelftest_sts]
  split
  · rw [setBits_and, hk.sts, show stsSelftestDone &&& 0xFFFFFF23#32 = 0#32 by decide, BitVec.or_zero]
  · exact hk.sts

/-- A response inside the outstanding command's capacity fits the buffer (spec/47_backend.md R296). -/
theorem DeviceInv.takeResponse {s : State} (h : DeviceInv s) {resp : List Byte} (hlen : resp.length ≤ s.cmd.outCap.val)
    (est : Bool) : DeviceInv { s with
      buffer := Memory.writeBytes s.buffer 0 resp, beEstablished := est, beOutstanding := false } :=
  { h with
    buffer_wf := Memory.wf_writeBytes h.buffer_wf (by
      have := s.cmd.outCap.isLt
      simp only [Config.bufferMax]
      omega)
    out_cap := nofun
    in_len := nofun }

/-- The device as `completeCommand` leaves it before a pending hand-over is performed. -/
def State.responded (resp : List Byte) (selftest est : Bool) (s : State) : State :=
  let u := markSelftest selftest
    { s with buffer := Memory.writeBytes s.buffer 0 resp, beEstablished := est, beOutstanding := false }
  { (stsSet s.cmd.locty (stsValid ||| stsDataAvailable) u).setLocState s.cmd.locty .completion with rwOffset := 0#16 }

theorem completeCommand_eq (resp : List Byte) (selftest est : Bool) (s : State) :
    completeCommand resp selftest est s =
      raiseIrq (some s.cmd.locty) (intDataAvailable ||| intStsValid)
        (if (s.responded resp selftest est).nextLocty.isSome then abort (s.responded resp selftest est)
          else s.responded resp selftest est) := rfl

theorem responded_nextLocty (resp : List Byte) (selftest est : Bool) (s : State) :
    (s.responded resp selftest est).nextLocty = s.nextLocty ∧
      (s.responded resp selftest est).abortingLocty = s.abortingLocty := by
  simp [State.responded]

/-- A pending self-abort's locality is in COMPLETION here, so this is said of the state without the pending pair. -/
theorem DeviceInv.responded {s : State} (h : DeviceInv s) {resp : List Byte} (hlen : resp.length ≤ s.cmd.outCap.val)
    (selftest est : Bool) : DeviceInv (s.responded resp selftest est).clearPending := by
  have hmarked := ((h.takeResponse hlen est).markSelftest selftest).clearPending
  exact ((hmarked.stsSet s.cmd.locty (flags := stsValid ||| stsDataAvailable) (by decide)).setLocState
    (l := s.cmd.locty) (x := .completion) nofun).rewind

theorem State.clearPending_eq_self {s : State} (hn : s.nextLocty = none) (ha : s.abortingLocty = none) :
    s.clearPending = s := by
  cases s
  cases hn
  cases ha
  rfl

theorem DeviceInv.completeCommand {s : State} (h : DeviceInv s) {resp : List Byte}
    (hlen : resp.length ≤ s.cmd.outCap.val) (selftest est : Bool) :
    DeviceInv (completeCommand resp selftest est s) := by
  have hresponded := h.responded hlen selftest est
  obtain ⟨hnext, haborting⟩ := responded_nextLocty resp selftest est s
  rw [completeCommand_eq]
  refine DeviceInv.raiseIrq ?_ _ (by decide)
  split
  · exact hresponded.abort (hnext ▸ h.next_ne_four)
  · next hnone =>
    have hnone : s.nextLocty = none := by simpa [hnext] using hnone
    rwa [State.clearPending_eq_self (hnext.trans hnone) (haborting.trans (h.aborting_pending hnone))] at hresponded

theorem DeviceInv.resetDevice {s : State} (h : DeviceInv s) (ver : TpmVersion) {raw : Nat} (hraw : 1 ≤ raw)
    (err est : Bool) : DeviceInv (resetDevice ver raw err est s) := by
  have hbank : ∀ k, (Machine.resetDevice ver raw err est s).bank k = Bank.reset ver := by simp [Machine.resetDevice]
  have hok : BankOk ver False (Bank.reset ver) := bankOk_reset ver id
  exact
  { buffer_wf := h.buffer_wf
    size_pos := le_min hraw (by decide)
    cursor_bound := Nat.zero_le _
    owner_flag := fun k => by rw [hbank]; simpa [Machine.resetDevice] using hok.access.flag
    owner_clean := nofun
    access_fixed := fun k => by rw [hbank]; exact hok.access.fixed
    sts_fixed := fun k => by rw [hbank]; exact hok.sts
    ints_supported := fun k => by rw [hbank]; exact hok.ints
    inte_writable := fun k => by rw [hbank]; exact hok.inte
    iface_equal := fun k => by rw [hbank, hbank]
    iface_value := by rw [hbank]; exact .inl rfl
    locality4_passive := ⟨nofun, nofun, by rw [hbank]; rfl⟩
    aborting_pending := fun _ => rfl
    self_abort_state := nofun
    out_cap := nofun
    in_len := nofun }

/-- Settles O55: each effect an event can have keeps the invariant; the decoder admits no reset with an empty buffer. -/
theorem stepKeepsDeviceInv : Obligations.StepKeepsDeviceInv := by
  unfold Obligations.StepKeepsDeviceInv
  intro s t hs hstep
  obtain rfl | ⟨i, rest, he, hraw⟩ := step_effect hstep
  · exact hs
  · have hinv : DeviceInv { s with inputs := rest } := { hs with }
    cases he with
    | guest _ hg => exact hg.keeps_deviceInv hinv
    | completion _ hlen => exact (hinv.completeCommand hlen _ _).quiet
    | reset => exact (hinv.resetDevice _ (hraw _ _ _ _ rfl) _ _).quiet

end Sys2Proof.Machine
end

section
/-! PROOFS. The delivery of events and the dispatcher's two pipelines, said once: a page of the region or one outside it,
each pipeline by page, and every read and write row as a run of its pipeline (spec/20_memory.md R62, R71, R76). -/

namespace Sys2Proof.Machine

theorem nextInput_nil {s : State} (h : s.inputs = []) : nextInput s = none := by
  simp [nextInput, h]

theorem nextInput_cons {s : State} {x : Input} {rest : List Input} (h : s.inputs = x :: rest) :
    nextInput s = some (x, { s with inputs := rest }) := by
  simp [nextInput, h]

/-- Settles O6: the queue is empty or has an oldest event, which the decoder accepts or rejects. -/
theorem stepRunsTheDecodedEvent : Obligations.StepRunsTheDecodedEvent := by
  unfold Obligations.StepRunsTheDecodedEvent
  refine ⟨fun s x rest i hs hx => ?accepted, fun s x rest e hs hx => ?rejected, fun s hs => ?idle⟩
  case accepted => simp only [step, nextInput_cons hs, hx]
  case rejected => simp only [step, nextInput_cons hs, hx]
  case idle => simp only [step, nextInput_nil hs]

/-! ## Pages -/

theorem localityOf_outside {loc : BitVec 3} (h : 5 ≤ loc.toNat) : localityOf loc = none :=
  dif_neg (Nat.not_lt.mpr h)

@[simp] theorem localityOf_pageOf (l : Locality) : localityOf (pageOf l) = some l := by
  revert l
  decide

/-- A page field lies outside the region or is the page of a locality (spec/20_memory.md R61, R62). -/
theorem page_outside_or_pageOf (loc : BitVec 3) : 5 ≤ loc.toNat ∨ ∃ l : Locality, loc = pageOf l := by
  revert loc
  decide

/-! ## The pipelines by page -/

theorem busRead_outside {loc : BitVec 3} (h : 5 ≤ loc.toNat) (n : Width) (serve : Locality → State → Word × State)
    (s : State) : busRead n loc serve s = outOfWindowRead n s := by
  simp only [busRead, localityOf_outside h]

theorem busRead_pageOf (n : Width) (l : Locality) (serve : Locality → State → Word × State) (s : State) :
    busRead n (pageOf l) serve s =
      if s.beStartupError then s.answer n 0#32 else (serve l s).2.answer n (serve l s).1 := by
  simp only [busRead, localityOf_pageOf]

theorem busWrite_outside {loc : BitVec 3} (h : 5 ≤ loc.toNat) (serve : Locality → State → State) (s : State) :
    busWrite loc serve s = s.quiet := by
  simp only [busWrite, localityOf_outside h]

theorem busWrite_pageOf (l : Locality) (serve : Locality → State → State) (s : State) :
    busWrite (pageOf l) serve s = if l = 4 ∨ s.beStartupError = true then s.quiet else (serve l s).quiet := by
  simp only [busWrite, localityOf_pageOf, ite_or]

/-! ## Every row is a run of its pipeline -/

/-- How a read row is served: the FIFO rows by the FIFO port, every other row by a value of the state
(spec/20_memory.md R76). -/
inductive ReadServe (i : Instr) (n : Width) : (Locality → State → Word × State) → Prop where
  | fifo (hi : isFifoRead i = true) (lane : BitVec 2) : ReadServe i n (fifoRead n lane)
  | register (hi : isFifoRead i = false) (lane : BitVec 2) (value : Locality → State → Word) :
      ReadServe i n fun l s => (laneRead (value l s) n lane, s)

/-- Every read row runs the read pipeline on its page. -/
theorem exec_read {i : Instr} {n : Width} {loc : BitVec 3} (h : readOf i = some (n, loc)) :
    ∃ serve, ReadServe i n serve ∧ ∀ s, exec i s = .next (busRead n loc serve s) := by
  cases i <;> cases h
  case rdDataFifo lane => exact ⟨_, .fifo rfl lane, fun _ => rfl⟩
  case rdDataXfifo dword lane => exact ⟨_, .fifo rfl lane, fun _ => rfl⟩
  all_goals exact ⟨_, .register rfl _ _, fun _ => rfl⟩

/-- Every write row runs the write pipeline on its page; WR_LOCALITY4 on the page of locality 4, which the pipeline drops
(spec/40_dispatch.md R123). -/
theorem exec_write {i : Instr} {loc : BitVec 3} (h : writeOf i = some loc) :
    ∃ serve, ∀ s, exec i s = .next (busWrite loc serve s) := by
  cases i <;> cases h
  case wrLocality4 => exact ⟨fun _ s => s, fun _ => rfl⟩
  all_goals exact ⟨_, fun _ => rfl⟩

/-! ## Outside the region -/

/-- A value masked to the access width has at most the width's bits (spec/30_encoding.md R97). -/
theorem and_sizeMask_lt (v : Word) (n : Width) : (v &&& sizeMask n).toNat < 2 ^ (8 * widthBytes n) := by
  rw [BitVec.toNat_and]
  exact Nat.and_lt_two_pow _ (by cases n <;> decide)

/-- Settles O9: both pipelines stop at a page outside the region. -/
theorem outsideRegionLeavesDeviceUnchanged : Obligations.OutsideRegionLeavesDeviceUnchanged := by
  unfold Obligations.OutsideRegionLeavesDeviceUnchanged
  refine fun i s => ⟨fun n loc hi hloc => ?read, fun loc hi hloc => ?write⟩
  case read =>
    obtain ⟨serve, _, hexec⟩ := exec_read hi
    refine ⟨Config.outOfWindow s.freeCount &&& sizeMask n, and_sizeMask_lt _ n, ?_⟩
    rw [hexec, busRead_outside hloc, outOfWindowRead]
  case write =>
    obtain ⟨serve, hexec⟩ := exec_write hi
    rw [hexec, busWrite_outside hloc, State.quiet]

/-! ## Reads without side effects -/

/-- The FIFO has a byte for locality l: COMPLETION with DATA_AVAILABLE set (spec/42_fifo.md R179). -/
def State.HasData (s : State) (l : Locality) : Prop :=
  (s.bank l).state = .completion ∧ anySet (s.bank l).sts stsDataAvailable = true

theorem State.hasData_iff (s : State) (l : Locality) :
    s.HasData l ↔ (s.bank l).state = .completion ∧ (s.bank l).sts &&& 0x10#32 ≠ 0#32 := by
  simp [State.HasData, anySet, stsDataAvailable]

theorem readByte_of_no_data {l : Locality} {s : State} (h : ¬ s.HasData l) : readByte l s = (noDataByte, s) :=
  if_neg h

theorem readBytes_of_no_data {l : Locality} {s : State} (h : ¬ s.HasData l) (k : Nat) :
    readBytes l k s = (List.replicate k noDataByte, s) := by
  induction k with
  | zero => rfl
  | succ k ih => simp only [readBytes, readByte_of_no_data h, ih, List.replicate_succ]

/-- A FIFO read consumes nothing unless the reader owns the interface and has data waiting (spec/42_fifo.md R179, R180). -/
theorem fifoRead_of_unserved {l : Locality} {s : State} (h : ¬ (s.activeLocty = some l ∧ s.HasData l)) (n : Width)
    (lane : BitVec 2) : (fifoRead n lane l s).2 = s := by
  unfold fifoRead
  split
  · rw [readBytes_of_no_data fun hdata => h ⟨‹_›, hdata⟩]
  · rfl

/-- The read pipeline leaves the device as its register leaves it. -/
theorem busRead_frame {loc : BitVec 3} {serve : Locality → State → Word × State} {s : State}
    (h : ∀ l, loc = pageOf l → (serve l s).2 = s) (n : Width) :
    ∃ r c, busRead n loc serve s = { s with reply := r, freeCount := c } := by
  obtain hloc | ⟨l, rfl⟩ := page_outside_or_pageOf loc
  · exact ⟨_, _, busRead_outside hloc n serve s⟩
  · rw [busRead_pageOf, h l rfl]
    split <;> exact ⟨_, s.freeCount, rfl⟩

/-- Settles O18: a register read serves a value alone, an unserved FIFO read consumes nothing. -/
theorem readsWithoutSideEffects : Obligations.ReadsWithoutSideEffects := by
  unfold Obligations.ReadsWithoutSideEffects
  intro i s t n loc hi ht hquiet
  obtain ⟨serve, hserve, hexec⟩ := exec_read hi
  have hkeep : ∀ l, loc = pageOf l → (serve l s).2 = s := by
    intro l hl
    cases hserve with
    | register _ lane value => rfl
    | fifo hfifo lane =>
      obtain hreg | hunserved := hquiet
      · cases hreg.symm.trans hfifo
      · refine fifoRead_of_unserved ?_ n lane
        rw [State.hasData_iff]
        exact hunserved l hl
  obtain ⟨r, c, hframe⟩ := busRead_frame hkeep n
  rw [hexec, hframe] at ht
  cases ht
  rfl

end Sys2Proof.Machine
end

section
/-! PROOFS. The register decode both ways, the rows as read and write rows of a register, and the four kinds of transaction
word (spec/30_encoding.md R91 to R96). -/

namespace Sys2Proof
open Laws Machine

/-! ## Registers and their REG values -/

/-- The REG value that selects a register (spec/30_encoding.md R94, R95). -/
def RegName.code : RegName → BitVec 10
  | .access => 0x000#10
  | .intEnable => 0x002#10
  | .intVector => 0x003#10
  | .intStatus => 0x004#10
  | .intfCapability => 0x005#10
  | .sts => 0x006#10
  | .dataFifo => 0x009#10
  | .interfaceId => 0x00C#10
  | .dataXfifo dword => xfifoReg dword
  | .didVid => 0x3C0#10
  | .rid => 0x3C1#10
  | .unlisted reg => reg

/-- A register is named unlisted only when the table of spec/30_encoding.md R94 does not list it. -/
def RegName.wf : RegName → Bool
  | .unlisted reg => !isListedReg reg
  | _ => true

/-- A REG value in the alias window is that of its dword (spec/30_encoding.md R95). -/
theorem xfifoReg_dword {reg : BitVec 10} (h : isXfifoReg reg = true) : xfifoReg (reg.extractLsb' 0 4) = reg := by
  have hhigh : reg.extractLsb' 4 6 = 0b000010#6 := beq_iff_eq.mp h
  rw [xfifoReg, ← hhigh]
  exact (BitVec.extractLsb'_append_extractLsb'_eq_extractLsb' rfl).trans BitVec.extractLsb'_eq_self

theorem regOf_code {r : RegName} (h : r.wf = true) : regOf r.code = r := by
  cases r with
  | dataXfifo dword => revert dword; decide
  | unlisted reg =>
    obtain ⟨hlisted, hxfifo⟩ : reg ∉ listedRegs ∧ isXfifoReg reg = false := by
      simpa [RegName.wf, isListedReg] using h
    simp only [listedRegs, List.mem_cons, List.not_mem_nil, or_false, not_or] at hlisted
    simp [regOf, RegName.code, hlisted, hxfifo]
  | _ => rfl

theorem code_regOf (reg : BitVec 10) : (regOf reg).code = reg := by
  unfold regOf
  split_ifs <;> simp [RegName.code, xfifoReg_dword, *]

theorem wf_regOf (reg : BitVec 10) : (regOf reg).wf = true := by
  unfold regOf
  split_ifs <;> simp [RegName.wf, isListedReg, listedRegs, *]

/-! ## The read and the write row of a register -/

theorem encode_readInstr (n : Width) (loc : BitVec 3) (lane : BitVec 2) (r : RegName) :
    encode (readInstr n loc lane r) = readWord n loc r.code lane := by
  cases r <;> rfl

theorem encode_writeInstr (n : Width) (loc : BitVec 3) (lane : BitVec 2) (v : Word) (r : RegName) :
    encode (writeInstr n loc lane v r) = writeWord n loc r.code lane v := by
  cases r <;> rfl

theorem wf_readInstr (n : Width) (loc : BitVec 3) (lane : BitVec 2) (r : RegName) :
    (readInstr n loc lane r).wf = r.wf := by
  cases r <;> rfl

theorem wf_writeInstr (n : Width) (loc : BitVec 3) (lane : BitVec 2) (v : Word) (r : RegName) :
    (writeInstr n loc lane v r).wf = (writePageOk loc && r.wf) := by
  cases r <;> simp [writeInstr, Instr.wf, RegName.wf]

theorem readOf_readInstr (n : Width) (loc : BitVec 3) (lane : BitVec 2) (r : RegName) :
    readOf (readInstr n loc lane r) = some (n, loc) := by
  cases r <;> rfl

theorem readOf_writeInstr (n : Width) (loc : BitVec 3) (lane : BitVec 2) (v : Word) (r : RegName) :
    readOf (writeInstr n loc lane v r) = none := by
  cases r <;> rfl

/-- The 28 rows in six kinds: the decoder and the encoder treat the rows of one kind alike. -/
inductive Instr.Kind : Instr → Prop where
  | refused (w : Bool) (loc : BitVec 3) (reg : BitVec 10) (lane : BitVec 2) (v : Word) :
      Kind (.refusedWidth w loc reg lane v)
  | locality4 (n : Width) (reg : BitVec 10) (lane : BitVec 2) (v : Word) : Kind (.wrLocality4 n reg lane v)
  | read (n : Width) (loc : BitVec 3) (lane : BitVec 2) (r : RegName) : Kind (readInstr n loc lane r)
  | write (n : Width) (loc : BitVec 3) (lane : BitVec 2) (v : Word) (r : RegName) : Kind (writeInstr n loc lane v r)
  | completion (resp : List Byte) (selftest : Bool) (ret : Int) (est : Bool) : Kind (.complete resp selftest ret est)
  | platformReset (ver : TpmVersion) (raw : Nat) (err est : Bool) : Kind (.reset ver raw err est)

theorem Instr.kind (i : Instr) : i.Kind := by
  cases i with
  | refusedWidth w loc reg lane v => exact .refused w loc reg lane v
  | wrLocality4 n reg lane v => exact .locality4 n reg lane v
  | rdAccess n loc lane => exact .read n loc lane .access
  | wrAccess n loc lane v => exact .write n loc lane v .access
  | rdIntEnable n loc lane => exact .read n loc lane .intEnable
  | wrIntEnable n loc lane v => exact .write n loc lane v .intEnable
  | rdIntVector n loc lane => exact .read n loc lane .intVector
  | wrIntVector n loc lane v => exact .write n loc lane v .intVector
  | rdIntStatus n loc lane => exact .read n loc lane .intStatus
  | wrIntStatus n loc lane v => exact .write n loc lane v .intStatus
  | rdIntfCapability n loc lane => exact .read n loc lane .intfCapability
  | wrIntfCapability n loc lane v => exact .write n loc lane v .intfCapability
  | rdSts n loc lane => exact .read n loc lane .sts
  | wrSts n loc lane v => exact .write n loc lane v .sts
  | rdDataFifo n loc lane => exact .read n loc lane .dataFifo
  | wrDataFifo n loc lane v => exact .write n loc lane v .dataFifo
  | rdInterfaceId n loc lane => exact .read n loc lane .interfaceId
  | wrInterfaceId n loc lane v => exact .write n loc lane v .interfaceId
  | rdDataXfifo n loc dword lane => exact .read n loc lane (.dataXfifo dword)
  | wrDataXfifo n loc dword lane v => exact .write n loc lane v (.dataXfifo dword)
  | rdDidVid n loc lane => exact .read n loc lane .didVid
  | wrDidVid n loc lane v => exact .write n loc lane v .didVid
  | rdRid n loc lane => exact .read n loc lane .rid
  | wrRid n loc lane v => exact .write n loc lane v .rid
  | rdUnmapped n loc reg lane => exact .read n loc lane (.unlisted reg)
  | wrUnmapped n loc reg lane v => exact .write n loc lane v (.unlisted reg)
  | complete resp selftest ret est => exact .completion resp selftest ret est
  | reset ver raw err est => exact .platformReset ver raw err est

/-! ## The kinds of transaction word, in the order of spec/30_encoding.md R96 -/

/-- A transaction word, by the branch of the decoder it takes. -/
inductive TxWord : BitVec 18 → Prop where
  | refused (w : Bool) (loc : BitVec 3) (reg : BitVec 10) (lane : BitVec 2) :
      TxWord (twOf 0b11#2 (BitVec.ofBool w) loc reg lane)
  | locality4 (n : Width) (reg : BitVec 10) (lane : BitVec 2) : TxWord (twOf (szCode n) 1#1 4#3 reg lane)
  | read (n : Width) (loc : BitVec 3) (r : RegName) (hr : r.wf = true) (lane : BitVec 2) :
      TxWord (twOf (szCode n) 0#1 loc r.code lane)
  | write (n : Width) (loc : BitVec 3) (hloc : loc ≠ 4#3) (r : RegName) (hr : r.wf = true) (lane : BitVec 2) :
      TxWord (twOf (szCode n) 1#1 loc r.code lane)

@[simp] theorem widthOf_szCode (n : Width) : widthOf (szCode n) = some n := by
  cases n <;> rfl

/-- SZ is the reserved code or the code of a width (spec/30_encoding.md R91, R92). -/
theorem reserved_or_szCode (sz : BitVec 2) : sz = 0b11#2 ∨ ∃ n, sz = szCode n := by
  have hcodes : sz = 0b11#2 ∨ sz = 0b00#2 ∨ sz = 0b01#2 ∨ sz = 0b10#2 := by
    revert sz
    decide
  obtain h | h | h | h := hcodes
  · exact .inl h
  · exact .inr ⟨.one, h⟩
  · exact .inr ⟨.two, h⟩
  · exact .inr ⟨.four, h⟩

theorem txWord_twOf (sz : BitVec 2) (w : BitVec 1) (loc : BitVec 3) (reg : BitVec 10) (lane : BitVec 2) :
    TxWord (twOf sz w loc reg lane) := by
  obtain ⟨b, rfl⟩ : ∃ b, w = BitVec.ofBool b := by
    revert w
    decide
  obtain rfl | ⟨n, rfl⟩ := reserved_or_szCode sz
  · exact .refused b loc reg lane
  · rw [← code_regOf reg]
    cases b with
    | false => exact .read n loc (regOf reg) (wf_regOf reg) lane
    | true =>
      obtain rfl | hloc := eq_or_ne loc 4#3
      · exact .locality4 n (regOf reg).code lane
      · exact .write n loc hloc (regOf reg) (wf_regOf reg) lane

/-- Every transaction word is of one of the four kinds. -/
theorem txWord (tw : BitVec 18) : TxWord tw :=
  twOf_fields tw ▸ txWord_twOf _ _ _ _ _

/-! ## What each kind of word decodes to -/

theorem decodeBus_refused (w : Bool) (loc : BitVec 3) (reg : BitVec 10) (lane : BitVec 2) (v : Word) :
    decodeBus (twOf 0b11#2 (BitVec.ofBool w) loc reg lane) v = .refusedWidth w loc reg lane v := by
  cases w <;> simp [decodeBus, widthOf]

theorem decodeBus_locality4 (n : Width) (reg : BitVec 10) (lane : BitVec 2) (v : Word) :
    decodeBus (twOf (szCode n) 1#1 4#3 reg lane) v = .wrLocality4 n reg lane v := by
  simp [decodeBus]

theorem decodeBus_read {r : RegName} (hr : r.wf = true) (n : Width) (loc : BitVec 3) (lane : BitVec 2) (v : Word) :
    decodeBus (twOf (szCode n) 0#1 loc r.code lane) v = readInstr n loc lane r := by
  simp [decodeBus, regOf_code hr]

theorem decodeBus_write {loc : BitVec 3} (hloc : loc ≠ 4#3) {r : RegName} (hr : r.wf = true) (n : Width)
    (lane : BitVec 2) (v : Word) :
    decodeBus (twOf (szCode n) 1#1 loc r.code lane) v = writeInstr n loc lane v r := by
  simp [decodeBus, hloc, regOf_code hr]

end Sys2Proof
end

section
/-! PROOFS. The decoder and the encoder undo each other, and the decoder accepts well-formed instructions only
(spec/30_encoding.md R90 to R104). -/

namespace Sys2Proof
open Laws Machine

/-- Settles O1: for each kind of row, the encoder's word is one that decodes to that row. -/
theorem decodeEncodeRoundTrip : Obligations.DecodeEncodeRoundTrip := by
  unfold Obligations.DecodeEncodeRoundTrip
  intro i hwf
  cases i.kind with
  | refused w loc reg lane v => exact congrArg Except.ok (decodeBus_refused w loc reg lane v)
  | locality4 n reg lane v => exact congrArg Except.ok (decodeBus_locality4 n reg lane v)
  | read n loc lane r =>
    rw [wf_readInstr] at hwf
    rw [encode_readInstr, readWord, decode, decodeBus_read hwf]
  | write n loc lane v r =>
    obtain ⟨hloc, hr⟩ : loc ≠ 4#3 ∧ r.wf = true := by simpa [wf_writeInstr, writePageOk] using hwf
    rw [encode_writeInstr, writeWord, decode, decodeBus_write hloc hr]
  | completion resp selftest ret est => exact if_pos (of_decide_eq_true hwf)
  | platformReset ver raw err est => exact if_pos (of_decide_eq_true hwf)

/-- Settles O2: for each kind of word, what it decodes to is encoded from the same fields. -/
theorem encodeDecodeRoundTrip : Obligations.EncodeDecodeRoundTrip := by
  unfold Obligations.EncodeDecodeRoundTrip
  intro tw data
  cases txWord tw with
  | refused w loc reg lane => rw [decodeBus_refused]; rfl
  | locality4 n reg lane => rw [decodeBus_locality4]; rfl
  | read n loc r hr lane => rw [decodeBus_read hr, encode_readInstr, readOf_readInstr]; rfl
  | write n loc hloc r hr lane => rw [decodeBus_write hloc hr, encode_writeInstr, readOf_writeInstr]; rfl

theorem wf_decodeBus (tw : BitVec 18) (data : Word) : (decodeBus tw data).wf = true := by
  cases txWord tw with
  | refused w loc reg lane => rw [decodeBus_refused]; rfl
  | locality4 n reg lane => rw [decodeBus_locality4]; rfl
  | read n loc r hr lane => rw [decodeBus_read hr, wf_readInstr, hr]
  | write n loc hloc r hr lane => simp [decodeBus_write hloc hr, wf_writeInstr, writePageOk, hloc, hr]

/-- Settles O4: a transaction word by its kind, the two addressless events by the decoder's own bound on them. -/
theorem decodedInstructionsAreWellFormed : Obligations.DecodedInstructionsAreWellFormed := by
  unfold Obligations.DecodedInstructionsAreWellFormed
  intro x i h
  cases x with
  | bus tw data =>
    cases h
    exact wf_decodeBus tw data
  | completion resp selftest ret est =>
    rw [decode] at h
    split_ifs at h with hfits
    cases h
    exact decide_eq_true hfits
  | platformReset ver raw err est =>
    rw [decode] at h
    split_ifs at h with hpos
    cases h
    exact decide_eq_true hpos

theorem decode_of_encode {x : Input} {i : Instr} (hwf : i.wf = true) (hx : encode i = x) : decode x = .ok i :=
  hx ▸ decodeEncodeRoundTrip i hwf

/-- Settles O5: each word is the encoder's word for the transaction it spells. -/
theorem specWordsDecode : Obligations.SpecWordsDecode := by
  unfold Obligations.SpecWordsDecode
  refine ⟨?_, ?_, ?_, ?_, ?_, ?_, ?_, ?_⟩ <;> exact decode_of_encode rfl rfl

end Sys2Proof
end

section
/-! PROOFS. The opcode table of spec/30_encoding.md R104 register by register: after its first two rows it holds two rows for
each register, which compare W and some bits of REG, so that its first match is the decoder's choice. -/

namespace Sys2Proof
open Laws Machine

/-- Two assembled words are equal exactly when their fields are. -/
theorem twOf_inj {a a' : BitVec 2} {b b' : BitVec 1} {c c' : BitVec 3} {d d' : BitVec 10} {e e' : BitVec 2} :
    twOf a b c d e = twOf a' b' c' d' e' ↔ a = a' ∧ b = b' ∧ c = c' ∧ d = d' ∧ e = e' := by
  refine ⟨fun h => ⟨?_, ?_, ?_, ?_, ?_⟩, by rintro ⟨rfl, rfl, rfl, rfl, rfl⟩; rfl⟩
  · simpa using congrArg twSz h
  · simpa using congrArg twW h
  · simpa using congrArg twLoc h
  · simpa using congrArg twReg h
  · simpa using congrArg twLane h

/-! ## The table, register by register -/

/-- The bits of REG that the rows of a register compare. -/
def RegName.mask : RegName → BitVec 10
  | .dataXfifo _ => 0x3F0#10
  | .unlisted _ => 0#10
  | _ => BitVec.allOnes 10

/-- The mnemonic of a register's read row (`false`) and of its write row (`true`). -/
def RegName.mnemonic (r : RegName) : Bool → String
  | false => (readInstr .one 0#3 0#2 r).mnemonic
  | true => (writeInstr .one 0#3 0#2 0#32 r).mnemonic

/-- A register's read row (`false`) and write row (`true`): they compare W and the register's bits of REG. -/
def RegName.row (r : RegName) (write : Bool) : OpcodeRow :=
  ⟨r.mnemonic write, twOf 0#2 (BitVec.ofBool write) 0#3 r.code 0#2, twOf 0#2 1#1 0#3 r.mask 0#2⟩

/-- The two rows of a register, in the order of the table. -/
def RegName.rows (r : RegName) : List OpcodeRow := [r.row false, r.row true]

/-- REG agrees with the register in the bits its rows compare. -/
def RegName.covers (reg : BitVec 10) (r : RegName) : Bool := reg &&& r.mask == r.code

/-- The listed registers in the order of the table; one dword stands for the whole alias window. -/
def listedRegisters : List RegName :=
  [.access, .intEnable, .intVector, .intStatus, .intfCapability, .sts, .dataFifo, .interfaceId, .dataXfifo 0#4, .didVid,
    .rid]

/-- The registers in the order of the table, which ends with the unlisted rows; REG 0 stands for every unlisted REG. -/
def tableRegisters : List RegName := listedRegisters ++ [.unlisted 0#10]

/-- The first row: every word of the reserved width (spec/30_encoding.md R92). -/
def refusedRow : OpcodeRow := ⟨"REFUSED_WIDTH", twOf 0b11#2 0#1 0#3 0#10 0#2, 0x30000#18⟩

/-- The second row: every write to page 4. -/
def locality4Row : OpcodeRow := ⟨"WR_LOCALITY4", twOf 0#2 1#1 4#3 0#10 0#2, 0x0F000#18⟩

theorem opcodeRows_eq : opcodeRows = refusedRow :: locality4Row :: tableRegisters.flatMap RegName.rows := by
  rfl

theorem mnemonic_readInstr (n : Width) (loc : BitVec 3) (lane : BitVec 2) (r : RegName) :
    (readInstr n loc lane r).mnemonic = r.mnemonic false := by
  cases r <;> rfl

theorem mnemonic_writeInstr (n : Width) (loc : BitVec 3) (lane : BitVec 2) (v : Word) (r : RegName) :
    (writeInstr n loc lane v r).mnemonic = r.mnemonic true := by
  cases r <;> rfl

/-! ## The words a row applies to -/

section Rows
variable (sz : BitVec 2) (w : BitVec 1) (loc : BitVec 3) (reg : BitVec 10) (lane : BitVec 2)

theorem refusedRow_applies : refusedRow.applies (twOf sz w loc reg lane) = (sz == 0b11#2) := by
  rw [OpcodeRow.applies, refusedRow, width_mask, Bool.eq_iff_iff]
  simp [twOf_inj]

theorem refusedRow_applies_szCode (n : Width) : refusedRow.applies (twOf (szCode n) w loc reg lane) = false := by
  rw [refusedRow_applies]
  cases n <;> rfl

theorem locality4Row_applies : locality4Row.applies (twOf sz w loc reg lane) = (w == 1#1 && loc == 4#3) := by
  rw [OpcodeRow.applies, locality4Row, page_mask, Bool.eq_iff_iff]
  simp [twOf_inj]

theorem RegName.row_applies (b write : Bool) (r : RegName) :
    (r.row write).applies (twOf sz (BitVec.ofBool b) loc reg lane) = (b == write && r.covers reg) := by
  have hb : BitVec.ofBool b &&& 1#1 = BitVec.ofBool b := BitVec.and_allOnes
  have hdir : BitVec.ofBool b = BitVec.ofBool write ↔ b = write := by
    revert b write
    decide
  rw [OpcodeRow.applies, RegName.row, twOf_and, hb, Bool.eq_iff_iff]
  simp [twOf_inj, RegName.covers, hdir]

/-- Of a register's two rows the one in the word's direction applies, and only if the register covers REG. -/
theorem RegName.find?_rows (b : Bool) (r : RegName) :
    r.rows.find? (fun row => row.applies (twOf sz (BitVec.ofBool b) loc reg lane)) =
      if r.covers reg then some (r.row b) else none := by
  simp only [RegName.rows, List.find?_cons, List.find?_nil, RegName.row_applies]
  cases b <;> cases r.covers reg <;> rfl

/-- Among the rows of a list of registers, the first that applies to a word is the first covering register's, in the
word's direction. -/
theorem find?_flatMap_rows (b : Bool) (rs : List RegName) :
    (rs.flatMap RegName.rows).find? (fun row => row.applies (twOf sz (BitVec.ofBool b) loc reg lane)) =
      (rs.find? (RegName.covers reg)).map fun r => r.row b := by
  induction rs with
  | nil => rfl
  | cons r rs ih =>
    rw [List.flatMap_cons, List.find?_append, ih, RegName.find?_rows, List.find?_cons]
    cases r.covers reg <;> rfl

end Rows

/-! ## The first register that covers a REG value -/

/-- The entry of the table that stands for a register. -/
def RegName.entry : RegName → RegName
  | .dataXfifo _ => .dataXfifo 0#4
  | .unlisted _ => .unlisted 0#10
  | r => r

theorem RegName.mnemonic_entry (r : RegName) (b : Bool) : r.entry.mnemonic b = r.mnemonic b := by
  cases r <;> cases b <;> rfl

/-- The DATA_XFIFO rows cover the alias window only. -/
theorem isXfifoReg_of_and_mask {reg : BitVec 10} (h : reg &&& 0x3F0#10 = 0x020#10) : isXfifoReg reg = true := by
  have hhigh := congrArg (BitVec.extractLsb' 4 6) h
  rw [BitVec.extractLsb'_and] at hhigh
  exact beq_iff_eq.mpr (BitVec.and_allOnes.symm.trans hhigh)

/-- The rows of a listed register compare all of REG, or they are the alias window's. -/
theorem exact_or_xfifo_of_mem : ∀ r ∈ listedRegisters,
    r.mask = BitVec.allOnes 10 ∧ r.code ∈ listedRegs ∨ r = .dataXfifo 0#4 := by
  decide

/-- A listed register's rows cover listed REG values only. -/
theorem isListedReg_of_covers {reg : BitVec 10} {r : RegName} (hmem : r ∈ listedRegisters)
    (h : r.covers reg = true) : isListedReg reg = true := by
  have hcode : reg &&& r.mask = r.code := beq_iff_eq.mp h
  obtain ⟨hmask, hlisted⟩ | rfl := exact_or_xfifo_of_mem r hmem
  · rw [hmask, BitVec.and_allOnes] at hcode
    simp [isListedReg, hcode, hlisted]
  · simp [isListedReg, isXfifoReg_of_and_mask hcode]

/-- A register's table entry is the first whose rows cover its REG value. -/
theorem find?_tableRegisters {r : RegName} (hr : r.wf = true) :
    tableRegisters.find? (RegName.covers r.code) = some r.entry := by
  cases r with
  | dataXfifo dword => revert dword; decide
  | unlisted reg =>
    have hnone : listedRegisters.find? (RegName.covers reg) = none := by
      refine List.find?_eq_none.mpr fun r hmem h => ?_
      simp [RegName.wf, isListedReg_of_covers hmem h] at hr
    have hcovers : RegName.covers reg (.unlisted 0#10) = true := beq_iff_eq.mpr BitVec.and_zero
    rw [RegName.code, tableRegisters, List.find?_append, hnone, List.find?_cons_of_pos hcovers]
    rfl
  | _ => rfl

/-! ## The first row that applies -/

/-- Neither of the first two rows applies to a word of a register's row, so its first match is that row. -/
theorem find?_opcodeRows (n : Width) {b : Bool} {loc : BitVec 3} (hpage : b = true → loc ≠ 4#3) {r : RegName}
    (hr : r.wf = true) (lane : BitVec 2) :
    (opcodeRows.find? fun row => row.applies (twOf (szCode n) (BitVec.ofBool b) loc r.code lane)).map
      OpcodeRow.mnemonic = some (r.mnemonic b) := by
  have hloc : locality4Row.applies (twOf (szCode n) (BitVec.ofBool b) loc r.code lane) = false := by
    rw [locality4Row_applies]
    cases b with
    | false => rfl
    | true => simpa using hpage rfl
  simp only [opcodeRows_eq, List.find?_cons, refusedRow_applies_szCode, hloc, find?_flatMap_rows,
    find?_tableRegisters hr]
  exact congrArg some (r.mnemonic_entry b)

/-- Settles O3: a refused word and a write to page 4 match the first and the second row; every other word goes to the first
register of the table that covers its REG. -/
theorem decodeIsTableFirstMatch : Obligations.DecodeIsTableFirstMatch := by
  unfold Obligations.DecodeIsTableFirstMatch
  intro tw data
  cases txWord tw with
  | refused w loc reg lane =>
    rw [decodeBus_refused, opcodeRows_eq, List.find?_cons_of_pos (refusedRow_applies _ _ _ _ _)]
    rfl
  | locality4 n reg lane =>
    simp only [decodeBus_locality4, opcodeRows_eq, List.find?_cons, refusedRow_applies_szCode, locality4Row_applies]
    rfl
  | read n loc r hr lane =>
    rw [decodeBus_read hr, mnemonic_readInstr]
    exact find?_opcodeRows n (b := false) nofun hr lane
  | write n loc hloc r hr lane =>
    rw [decodeBus_write hloc hr, mnemonic_writeInstr]
    exact find?_opcodeRows n (b := true) (fun _ => hloc) hr lane

end Sys2Proof
end

section
/-! PROOFS. The operands of a non-FIFO access: the width mask as a number and bit by bit, and from it the read value, the
shifted write value and the preserve-mask (spec/30_encoding.md R97); and the word of the refused width (R92). -/

namespace Sys2Proof.Machine

theorem toNat_sizeMask (n : Width) : (sizeMask n).toNat = 2 ^ (8 * widthBytes n) - 1 := by
  cases n <;> rfl

theorem getLsbD_sizeMask (n : Width) (k : Nat) : (sizeMask n).getLsbD k = decide (k < 8 * widthBytes n) := by
  rw [BitVec.getLsbD, toNat_sizeMask, Nat.testBit_two_pow_sub_one]

theorem toNat_and_sizeMask (v : Word) (n : Width) : (v &&& sizeMask n).toNat = v.toNat % 2 ^ (8 * widthBytes n) := by
  rw [BitVec.toNat_and, toNat_sizeMask, Nat.and_two_pow_sub_one_eq_mod]

theorem toNat_laneRead (r : Word) (n : Width) (lane : BitVec 2) :
    (laneRead r n lane).toNat = r.toNat / 2 ^ (8 * lane.toNat) % 2 ^ (8 * widthBytes n) := by
  rw [laneRead, toNat_and_sizeMask, BitVec.toNat_ushiftRight, Nat.shiftRight_eq_div_pow, laneShift]

theorem toNat_laneWrite (v : Word) (n : Width) (lane : BitVec 2) :
    (laneWrite v n lane).toNat = v.toNat % 2 ^ (8 * widthBytes n) * 2 ^ (8 * lane.toNat) % 2 ^ 32 := by
  rw [laneWrite, maskedData, BitVec.toNat_shiftLeft, toNat_and_sizeMask, Nat.shiftLeft_eq, laneShift]

theorem getLsbD_laneKeep (n : Width) (lane : BitVec 2) {k : Nat} (hk : k < 32) :
    (laneKeep n lane).getLsbD k =
      !(decide (8 * lane.toNat ≤ k) && decide (k < 8 * lane.toNat + 8 * widthBytes n)) := by
  have hmask : (sizeMask n <<< laneShift lane).getLsbD k =
      (decide (8 * lane.toNat ≤ k) && decide (k < 8 * lane.toNat + 8 * widthBytes n)) := by
    rw [BitVec.getLsbD_shiftLeft, getLsbD_sizeMask, laneShift, Bool.eq_iff_iff]
    simp only [Bool.and_eq_true, Bool.not_eq_true', decide_eq_true_eq, decide_eq_false_iff_not]
    omega
  rw [laneKeep, BitVec.getLsbD_not, hmask, decide_eq_true hk, Bool.true_and]

/-- Settles O14: the read value, the shifted write value and keep, each by its own lemma. -/
theorem operandAssemblyFollowsLanes : Obligations.OperandAssemblyFollowsLanes := by
  unfold Obligations.OperandAssemblyFollowsLanes
  exact fun n lane v => ⟨toNat_laneRead v n lane, toNat_laneWrite v n lane, fun _ hk => getLsbD_laneKeep n lane hk⟩

theorem exec_refusedWidth (w : Bool) (loc : BitVec 3) (reg : BitVec 10) (lane : BitVec 2) (v : Word) (s : State) :
    exec (.refusedWidth w loc reg lane v) s = .next (recordFault .refusedWidth s).quiet := rfl

/-- Settles O11: the step is the fault record, with no value returned. -/
theorem refusedWidthRecordsItsFault : Obligations.RefusedWidthRecordsItsFault := by
  unfold Obligations.RefusedWidthRecordsItsFault
  intro w loc reg lane v s
  rw [exec_refusedWidth, State.quiet, recordFault, FaultSet.add]

end Sys2Proof.Machine
end

section
/-! PROOFS. What the dispatcher itself answers: the startup error and the page of locality 4, where both pipelines stop
before the register, and the offsets that spec/30_encoding.md R94 does not list (spec/40_dispatch.md R122, R123, R127,
R128). -/

namespace Sys2Proof.Machine
open Laws

/-! ## Where the pipelines stop before the register -/

theorem busRead_startupError {n : Width} {loc : BitVec 3} {serve : Locality → State → Word × State} {s : State}
    (hs : s.beStartupError = true) (hloc : loc.toNat < 5) : busRead n loc serve s = s.answer n 0#32 := by
  obtain hout | ⟨l, rfl⟩ := page_outside_or_pageOf loc
  · omega
  · rw [busRead_pageOf, if_pos hs]

theorem busWrite_startupError {loc : BitVec 3} {serve : Locality → State → State} {s : State}
    (hs : s.beStartupError = true) : busWrite loc serve s = s.quiet := by
  obtain hout | ⟨l, rfl⟩ := page_outside_or_pageOf loc
  · exact busWrite_outside hout serve s
  · rw [busWrite_pageOf, if_pos (.inr hs)]

theorem busWrite_locality4 (serve : Locality → State → State) (s : State) : busWrite 4#3 serve s = s.quiet := by
  rw [show 4#3 = pageOf 4 from rfl, busWrite_pageOf, if_pos (.inl rfl)]

/-- A write row that serves its register with no effect changes nothing on any page. -/
theorem busWrite_ignored (loc : BitVec 3) (s : State) : busWrite loc (fun _ s => s) s = s.quiet := by
  obtain hout | ⟨l, rfl⟩ := page_outside_or_pageOf loc
  · exact busWrite_outside hout _ s
  · rw [busWrite_pageOf, ite_self]

/-- Settles O8: every read row runs the read pipeline and every write row the write pipeline, and with a startup error
neither reaches the register. -/
theorem startupErrorOverride : Obligations.StartupErrorOverride := by
  unfold Obligations.StartupErrorOverride
  refine fun i s hs => ⟨fun n loc hi hloc => ?read, fun loc hi => ?write⟩
  case read =>
    obtain ⟨serve, _, hexec⟩ := exec_read hi
    rw [hexec, busRead_startupError hs hloc, State.answer]
  case write =>
    obtain ⟨serve, hexec⟩ := exec_write hi
    rw [hexec, busWrite_startupError hs, State.quiet]

/-- Settles O10: every write row runs the write pipeline, which drops page 4 whatever the register. -/
theorem locality4WritesAreDropped : Obligations.Locality4WritesAreDropped := by
  unfold Obligations.Locality4WritesAreDropped
  intro i s hi
  obtain ⟨serve, hexec⟩ := exec_write hi
  rw [hexec, busWrite_locality4, State.quiet]

/-! ## Unlisted offsets -/

theorem regOf_of_unlisted {reg : BitVec 10} (h : isListedReg reg = false) : regOf reg = .unlisted reg :=
  regOf_code (r := .unlisted reg) (by simp [RegName.wf, h])

/-- The mask of the unlisted rows compares W alone. -/
theorem and_direction_mask_iff {tw : BitVec 18} {w : BitVec 1} :
    tw &&& 0x08000#18 = twOf 0#2 w 0#3 0#10 0#2 ↔ twW tw = w := by
  have hmask : tw &&& 0x08000#18 = twOf 0#2 (twW tw) 0#3 0#10 0#2 := by
    simpa only [twOf_fields] using direction_mask (twSz tw) (twW tw) (twLoc tw) (twReg tw) (twLane tw)
  simp [hmask, twOf_inj]

theorem decodeBus_unlisted_read {tw : BitVec 18} {n : Width} (v : Word) (hn : widthOf (twSz tw) = some n)
    (hreg : isListedReg (twReg tw) = false) (hw : twW tw = 0#1) :
    decodeBus tw v = .rdUnmapped n (twLoc tw) (twReg tw) (twLane tw) := by
  simp [decodeBus, hn, hw, regOf_of_unlisted hreg, readInstr]

theorem decodeBus_unlisted_write {tw : BitVec 18} {n : Width} (v : Word) (hn : widthOf (twSz tw) = some n)
    (hreg : isListedReg (twReg tw) = false) (hw : twW tw = 1#1) :
    decodeBus tw v = if twLoc tw = 4#3 then .wrLocality4 n (twReg tw) (twLane tw) v
      else .wrUnmapped n (twLoc tw) (twReg tw) (twLane tw) v := by
  simp [decodeBus, hn, hw, regOf_of_unlisted hreg, writeInstr]

theorem exec_rdUnmapped (n : Width) (loc : BitVec 3) (reg : BitVec 10) (lane : BitVec 2) (s : State) :
    exec (.rdUnmapped n loc reg lane) s = .next (regRead n loc lane (fun _ _ => unmappedValue) s) := rfl

theorem exec_wrUnmapped (n : Width) (loc : BitVec 3) (reg : BitVec 10) (lane : BitVec 2) (v : Word) (s : State) :
    exec (.wrUnmapped n loc reg lane v) s = .next (busWrite loc (fun _ s => s) s) := rfl

/-- A register that is served by a value alone: 0 under a startup error, else its lanes (spec/40_dispatch.md R120). -/
theorem regRead_pageOf (n : Width) (l : Locality) (lane : BitVec 2) (value : Locality → State → Word) (s : State) :
    regRead n (pageOf l) lane value s =
      s.answer n (if s.beStartupError then 0#32 else laneRead (value l s) n lane) := by
  rw [regRead, busRead_pageOf]
  split <;> rfl

theorem sizeMask_eq_ofNat (n : Width) : sizeMask n = BitVec.ofNat 32 (2 ^ (8 * widthBytes n) - 1) := by
  rw [← toNat_sizeMask, BitVec.ofNat_toNat, BitVec.setWidth_eq]

/-- Settles O12: the direction bit chooses the row of an unlisted REG; its read serves all-ones, its write nothing. -/
theorem unlistedOffsets : Obligations.UnlistedOffsets := by
  unfold Obligations.UnlistedOffsets
  refine ⟨fun tw n v hn _ hreg => ⟨fun hw => ?decodeRead, fun hw => ?decodeWrite⟩,
    fun n l reg lane v s => ⟨?read, ?write⟩⟩
  case decodeRead => exact decodeBus_unlisted_read v hn hreg (and_direction_mask_iff.mp hw)
  case decodeWrite => exact decodeBus_unlisted_write v hn hreg (and_direction_mask_iff.mp hw)
  case read =>
    rw [exec_rdUnmapped, regRead_pageOf, laneRead, laneShift, sizeMask_eq_ofNat, unmappedValue, State.answer]
  case write => rw [exec_wrUnmapped, busWrite_ignored, State.quiet]

end Sys2Proof.Machine
end

section
/-! PROOFS. The rules of the arbiter's own operations: the acting bits of an ACCESS write, who may take the interface,
and the exact state after a hand-over and after the start of one (spec/41_access.md R141 to R148, spec/44_abort.md R230,
R231). -/

namespace Sys2Proof.Machine

/-! ## States that differ in one record -/

/-- Two states are equal when their records are, and what stands beside the records. -/
theorem State.ext_banks {s t : State} (hbank : ∀ k, s.bank k = t.bank k) (hrest : { s with loc := t.loc } = t) :
    s = t := by
  rw [← hrest, ← State.loc_ext hbank]

/-- A store replaces what an earlier store to the same locality left. -/
theorem State.setAccess_setAccess (s : State) (l : Locality) (x y : BitVec 8) :
    (s.setAccess l x).setAccess l y = s.setAccess l y := by
  refine State.ext_banks (fun k => ?_) rfl
  simp only [State.bank_setAccess]
  split <;> rfl

theorem State.setAccess_self (s : State) (l : Locality) : s.setAccess l (s.bank l).access = s := by
  refine State.ext_banks (fun k => ?_) rfl
  rw [State.bank_setAccess]
  split
  · next hk => rw [hk]
  · rfl

/-! ## The acting bits of an ACCESS write -/

theorem anySet_eq_true {w : Nat} {v m : BitVec w} : anySet v m = true ↔ v &&& m ≠ 0#w := by
  simp [anySet]

/-- A mask inside another sees the same bits through it. -/
theorem anySet_and_of_subset {w : Nat} (v : BitVec w) {c m : BitVec w} (h : c &&& m = m) :
    anySet (v &&& c) m = anySet v m := by
  rw [anySet, anySet, BitVec.and_assoc, h]

/-- Steps 2 to 5 of an ACCESS write and the final hand-over, for a byte whose seize masking is done (spec/41_access.md
R141). -/
def accessAct (l : Locality) (b : BitVec 8) (s : State) : State :=
  accessFinish (accessStep5 l b (accessStep4 l b (accessStep3 l b (accessStep2 l b
    { st := s, cand := s.activeLocty, deferred := false }))))

/-- Only bits 1, 3, 4 and 5 of the byte act. -/
theorem accessAct_masked (l : Locality) (b : BitVec 8) (s : State) :
    accessAct l (b &&& 0x3A#8) s = accessAct l b s := by
  have h {m : BitVec 8} (hm : 0x3A#8 &&& m = m) : anySet (b &&& 0x3A#8) m = anySet b m := anySet_and_of_subset b hm
  have hreq := h (m := accRequestUse) rfl
  have hseize := h (m := accSeize) rfl
  have hbeen := h (m := accBeenSeized) rfl
  have hact := h (m := accActiveLocality) rfl
  simp only [accessAct, accessStep2, accessStep3, accessStep4, accessStep5, hreq, hseize, hbeen, hact]

theorem accessWrite_eq_accessAct (l : Locality) (wv : Word) (s : State) :
    accessWrite l wv s = accessAct l (accessStep1 (wv.setWidth 8)) s := rfl

/-- Without SEIZE the masking of step 1 keeps every bit (spec/41_access.md R142). -/
theorem accessStep1_of_no_seize {b : BitVec 8} (h : anySet b accSeize = false) : accessStep1 b = b :=
  if_neg (Bool.eq_false_iff.1 h)

/-- With SEIZE it drops REQUEST_USE and ACTIVE_LOCALITY (spec/41_access.md R142). -/
theorem accessStep1_of_seize {b : BitVec 8} (h : anySet b accSeize = true) : accessStep1 b = b &&& 0xDD#8 :=
  if_pos h

/-- A write without SEIZE acts by its own bits. -/
theorem accessWrite_of_bits {l : Locality} {wv : Word} {s : State} {v : BitVec 8} (h : wv.setWidth 8 &&& 0x3A#8 = v)
    (hv : anySet v accSeize = false) : accessWrite l wv s = accessAct l v s := by
  subst h
  rw [anySet_and_of_subset _ rfl] at hv
  rw [accessWrite_eq_accessAct, accessStep1_of_no_seize hv, accessAct_masked]

/-- A write with SEIZE and without BEEN_SEIZED acts as SEIZE alone. -/
theorem accessWrite_of_seize {l : Locality} {wv : Word} {s : State} (h : wv.setWidth 8 &&& 0x18#8 = 0x08#8) :
    accessWrite l wv s = accessAct l 0x08#8 s := by
  have hseize : anySet (wv.setWidth 8) accSeize = true := by
    rw [← anySet_and_of_subset (c := 0x18#8) _ rfl, h]
    rfl
  rw [accessWrite_eq_accessAct, accessStep1_of_seize hseize, ← accessAct_masked, BitVec.and_assoc,
    show (0xDD#8 &&& 0x3A#8 : BitVec 8) = 0x18#8 from rfl, h]

/-- Away from lane 0 no acting bit is written (spec/41_access.md R141). -/
theorem laneWrite_low_byte (v : Word) (n : Width) {lane : BitVec 2} (h : lane ≠ 0#2) :
    (laneWrite v n lane).setWidth 8 = 0#8 := by
  have hlane : 1 ≤ lane.toNat := by
    have : lane.toNat ≠ 0 := fun h0 => h (BitVec.eq_of_toNat_eq h0)
    omega
  refine BitVec.eq_of_getLsbD_eq fun i hi => ?_
  have hshift : i < laneShift lane := by simp only [laneShift]; omega
  simp [laneWrite, hshift]

/-! ## What each step of an ACCESS write does -/

section Steps
variable {l : Locality} {b : BitVec 8} {w : AccessWork} {s : State} {c : Option Locality} {d : Bool}

theorem accessStep2_of_no_release (h : anySet b accActiveLocality = false) : accessStep2 l b w = w :=
  if_neg (Bool.eq_false_iff.1 h)

theorem accessStep2_withdraw (h : anySet b accActiveLocality = true) (howner : s.activeLocty ≠ some l) :
    accessStep2 l b ⟨s, c, d⟩ = ⟨s.setAccess l (clearBits (s.bank l).access accRequestUse), c, d⟩ := by
  rw [accessStep2, if_pos h, if_neg howner]

theorem accessStep2_giveUp (h : anySet b accActiveLocality = true) (howner : s.activeLocty = some l)
    (hreq : s.highestRequester = none) : accessStep2 l b ⟨s, c, d⟩ = ⟨s, none, d⟩ := by
  simp only [accessStep2, h, howner, hreq, if_true]

theorem accessStep2_handOver (h : anySet b accActiveLocality = true) (howner : s.activeLocty = some l) {nl : Locality}
    (hreq : s.highestRequester = some nl) : accessStep2 l b ⟨s, c, d⟩ = ⟨prepAbort (some l) nl s, c, true⟩ := by
  simp only [accessStep2, h, howner, hreq, if_true]

theorem accessStep3_of_no_clear (h : anySet b accBeenSeized = false) : accessStep3 l b w = w :=
  if_neg (Bool.eq_false_iff.1 h)

theorem accessStep3_clear (h : anySet b accBeenSeized = true) :
    accessStep3 l b ⟨s, c, d⟩ = ⟨s.setAccess l (clearBits (s.bank l).access accBeenSeized), c, d⟩ :=
  if_pos h

/-- A SEIZE of l has effect: l is above the owner, and neither l nor a locality above it has a seize pending
(spec/41_access.md R145, the spec's decision D12). -/
structure State.CanSeize (s : State) (l : Locality) : Prop where
  above_owner : ∀ a, s.activeLocty = some a → a < l
  own_clear : (s.bank l).access &&& 0x08#8 = 0#8
  higher_clear : ∀ k, l < k → (s.bank k).access &&& 0x08#8 = 0#8

theorem State.CanSeize.not_owner {s : State} {l : Locality} (h : s.CanSeize l) : s.activeLocty ≠ some l :=
  fun howner => absurd (h.above_owner l howner) (lt_irrefl l)

theorem State.higherSeize_eq_false_iff (s : State) (l : Locality) :
    s.higherSeize l = false ↔ ∀ k, l < k → (s.bank k).access &&& 0x08#8 = 0#8 := by
  simp [State.higherSeize, anySet, accSeize]

theorem State.maySeize_iff (s : State) (l : Locality) : s.maySeize l = true ↔ ∀ a, s.activeLocty = some a → a < l := by
  unfold State.maySeize
  split <;> simp_all

theorem State.canSeize_iff (s : State) (l : Locality) :
    (s.maySeize l && !anySet (s.bank l).access accSeize && !s.higherSeize l) = true ↔ s.CanSeize l := by
  simp only [Bool.and_eq_true, Bool.not_eq_true', s.maySeize_iff, s.higherSeize_eq_false_iff, anySet_eq_false]
  exact ⟨fun ⟨⟨howner, hown⟩, hhigher⟩ => ⟨howner, hown, hhigher⟩,
    fun ⟨howner, hown, hhigher⟩ => ⟨⟨howner, hown⟩, hhigher⟩⟩

theorem accessStep4_of_no_seize (h : anySet b accSeize = false) : accessStep4 l b w = w := by
  simp [accessStep4, h]

theorem accessStep4_refused (h : ¬ s.CanSeize l) : accessStep4 l b ⟨s, c, d⟩ = ⟨s, c, d⟩ := by
  rw [← State.canSeize_iff] at h
  cases hseize : anySet b accSeize with
  | false => exact accessStep4_of_no_seize hseize
  | true => rw [accessStep4, hseize, Bool.true_and, if_neg h]

theorem accessStep4_seize (h : anySet b accSeize = true) (hcan : s.CanSeize l) :
    accessStep4 l b ⟨s, c, d⟩ = ⟨prepAbort s.activeLocty l (recordSeize l s), c, true⟩ := by
  rw [← State.canSeize_iff] at hcan
  rw [accessStep4, h, Bool.true_and, if_pos hcan]

theorem accessStep5_of_no_request (h : anySet b accRequestUse = false) : accessStep5 l b w = w := by
  simp [accessStep5, h]

theorem accessStep5_owner (h : s.activeLocty = some l) : accessStep5 l b ⟨s, c, d⟩ = ⟨s, c, d⟩ := by
  simp [accessStep5, h]

theorem accessStep5_record (h : anySet b accRequestUse = true) {a : Locality} (howner : s.activeLocty = some a)
    (ha : a ≠ l) : accessStep5 l b ⟨s, c, d⟩ = ⟨s.setAccess l (setBits (s.bank l).access accRequestUse), c, d⟩ := by
  simp [accessStep5, h, howner, ha]

theorem accessStep5_free (h : anySet b accRequestUse = true) (hfree : s.activeLocty = none) :
    accessStep5 l b ⟨s, c, d⟩ = ⟨s, some l, d⟩ := by
  simp [accessStep5, h, hfree]

end Steps

/-! ## The highest requester (spec/41_access.md R143) -/

theorem State.highestRequester_eq_none_iff (s : State) :
    s.highestRequester = none ↔ ∀ k, (s.bank k).access &&& 0x02#8 = 0#8 := by
  simp only [State.highestRequester, List.find?_eq_none, ← Bool.eq_false_iff, anySet_eq_false, accRequestUse]
  exact ⟨fun h k => h k (by revert k; decide), fun h k _ => h k⟩

theorem State.highestRequester_eq_some {s : State} {n : Locality} (hreq : (s.bank n).access &&& 0x02#8 ≠ 0#8)
    (hmax : ∀ k, n < k → (s.bank k).access &&& 0x02#8 = 0#8) : s.highestRequester = some n := by
  have hn : anySet (s.bank n).access accRequestUse = true := anySet_eq_true.2 hreq
  have habove (k : Locality) (hk : n < k) : anySet (s.bank k).access accRequestUse = false :=
    anySet_eq_false.2 (hmax k hk)
  unfold State.highestRequester
  fin_cases n <;> simp_all

/-! ## The hand-over, exactly (spec/41_access.md R148) -/

theorem newActiveLocality_of_free {s : State} (h : s.activeLocty = none) (n : Locality) :
    newActiveLocality (some n) s = raiseIrq (some n) intLocalityChanged
      { s.setAccess n (((s.bank n).access ||| 0x20#8) &&& 0xF5#8) with activeLocty := some n } := by
  rw [newActiveLocality_change (by simp [h]), dropOldOwner, h]
  rfl

theorem newActiveLocality_of_other {s : State} {o n : Locality} (h : s.activeLocty = some o) (hne : o ≠ n) :
    newActiveLocality (some n) s = raiseIrq (some n) intLocalityChanged
      { (s.setAccess o (oldOwnerAccess s o (some n))).setAccess n (((s.bank n).access ||| 0x20#8) &&& 0xF5#8) with
        activeLocty := some n } := by
  have hn : s.activeLocty ≠ some n := by simpa [h] using hne
  have hdrop : dropOldOwner (some n) s = s.setAccess o (oldOwnerAccess s o (some n)) := by
    rw [dropOldOwner, h]
    exact if_pos (by simpa using hne)
  have haccess : ((s.setAccess o (oldOwnerAccess s o (some n))).bank n).access = (s.bank n).access := by
    simp [Ne.symm hne]
  rw [newActiveLocality_change hn, hdrop, ← haccess]
  rfl

theorem newActiveLocality_nobody {s : State} {o : Locality} (h : s.activeLocty = some o) :
    newActiveLocality none s = { s.setAccess o ((s.bank o).access &&& 0xDD#8) with activeLocty := none } := by
  rw [newActiveLocality_change (by simp [h]), dropOldOwner, h]
  rfl

/-- Taking the interface changes nothing in the ACCESS of a locality that has it and claims nothing. -/
theorem access_taken_twice : ∀ a : BitVec 8, a &&& 0x02#8 = 0#8 → a &&& 0x08#8 = 0#8 → a &&& 0x20#8 ≠ 0#8 →
    (a ||| 0x20#8) &&& 0xF5#8 = a := by
  decide

/-- Under the invariant the final hand-over to the present owner does nothing. -/
theorem DeviceInv.newActiveLocality_self {s : State} (h : DeviceInv s) :
    Machine.newActiveLocality s.activeLocty s = s := by
  have hdrop : dropOldOwner s.activeLocty s = s := by
    unfold dropOldOwner
    split
    · exact if_neg (not_not.2 rfl)
    · rfl
  rw [newActiveLocality_same rfl, hdrop]
  cases ha : s.activeLocty with
  | none =>
    change { s with activeLocty := none } = s
    rw [← ha]
  | some a =>
    obtain ⟨hreq, hseize⟩ := h.owner_clean a ha
    have htaken := access_taken_twice (s.bank a).access (anySet_eq_false.1 hreq) (anySet_eq_false.1 hseize)
      (anySet_eq_true.1 ((h.owner_flag a).2 ha))
    change { s with activeLocty := some a }.setAccess a (((s.bank a).access ||| 0x20#8) &&& 0xF5#8) = s
    rw [htaken, ← ha]
    exact s.setAccess_self a

/-! ## The start of a hand-over (spec/44_abort.md R230) -/

theorem State.anyExecution_eq_false {s : State} (h : ∀ k, (s.bank k).state ≠ .execution) : s.anyExecution = false := by
  rw [Bool.eq_false_iff, Ne, s.anyExecution_iff]
  exact fun ⟨k, hk⟩ => h k hk

/-- The state in which `abort` hands the interface over: the cursor cleared, nothing left pending
(spec/44_abort.md R231). -/
def State.settled (s : State) : State := { s with nextLocty := none, abortingLocty := none, rwOffset := 0#16 }

@[simp] theorem State.bank_settled (s : State) (k : Locality) : s.settled.bank k = s.bank k := rfl

@[simp] theorem State.settled_frame (s : State) :
    s.settled.activeLocty = s.activeLocty ∧ s.settled.nextLocty = none ∧ s.settled.abortingLocty = none ∧
    s.settled.rwOffset = 0#16 ∧ s.settled.irqLine = s.irqLine := ⟨rfl, rfl, rfl, rfl, rfl⟩

/-- `abort` is a hand-over from the settled state, after the self-abort if the pending one is the new owner's. -/
theorem abort_eq {s : State} {x : Locality} (hx : s.nextLocty = some x) :
    abort s = newActiveLocality (some x) (if s.abortingLocty = some x then selfAbort x s.settled else s.settled) := by
  unfold abort
  simp only [hx]
  change (newActiveLocality _ _).clearPending = _
  rw [clearPending_newActiveLocality]
  split
  · simp only [clearPending_selfAbort, selfAbort_keeps]
    rfl
  · rfl

/-- The ACCESS stores after a hand-over depend on the owner and the ACCESS stores before it. -/
theorem newActiveLocality_access_congr {s t : State} (howner : s.activeLocty = t.activeLocty)
    (haccess : ∀ k, (s.bank k).access = (t.bank k).access) (new : Option Locality) (k : Locality) :
    ((newActiveLocality new s).bank k).access = ((newActiveLocality new t).bank k).access := by
  have hold : oldOwnerAccess s k new = oldOwnerAccess t k new := by
    cases new <;> simp only [oldOwnerAccess, haccess]
  rw [newActiveLocality_access, newActiveLocality_access, handOver_access, handOver_access, howner, haccess, hold]

/-- The ACCESS stores after `abort` are those of its hand-over: a self-abort does not touch them. -/
theorem abort_access {s : State} {x : Locality} (hx : s.nextLocty = some x) (k : Locality) :
    ((abort s).bank k).access = ((newActiveLocality (some x) s).bank k).access := by
  rw [abort_eq hx]
  refine newActiveLocality_access_congr ?_ (fun j => ?_) _ k
  · split <;> simp
  · split <;> simp

/-- With nothing in EXECUTION a hand-over to another locality than the one that gives up is performed at once. -/
theorem prepAbort_now_of_ne {s : State} (h : s.anyExecution = false) {a : Option Locality} {n : Locality}
    (ha : a ≠ some n) : prepAbort a n s = newActiveLocality (some n) s.settled := by
  rw [prepAbort_now h, abort_eq rfl, if_neg ha]
  rfl

end Sys2Proof.Machine
end

section
/-! PROOFS. What one ACCESS write does, action by action: REQUEST_USE, the release and the withdrawal, SEIZE
(spec/41_access.md R141 to R148). -/

namespace Sys2Proof.Machine

theorem exec_rdAccess_pageOf (n : Width) (l : Locality) (lane : BitVec 2) {s : State} (hs : s.beStartupError = false) :
    exec (.rdAccess n (pageOf l) lane) s = .next (s.answer n (laneRead (accessRead l s) n lane)) := by
  change Host.Outcome.next (regRead n (pageOf l) lane accessRead s) = _
  rw [regRead_pageOf, hs]
  rfl

theorem exec_wrAccess (n : Width) (loc : BitVec 3) (lane : BitVec 2) (v : Word) (s : State) :
    exec (.wrAccess n loc lane v) s = .next (busWrite loc (fun l s => accessWrite l (laneWrite v n lane) s) s) := rfl

theorem exec_wrAccess_pageOf (n : Width) {l : Locality} (lane : BitVec 2) (v : Word) {s : State} (hl : l ≠ 4)
    (hs : s.beStartupError = false) :
    exec (.wrAccess n (pageOf l) lane v) s = .next (accessWrite l (laneWrite v n lane) s).quiet := by
  rw [exec_wrAccess, busWrite_pageOf, if_neg (by simp [hl, hs])]

/-! ## The acting bits one by one (spec/41_access.md R143, R145, R146) -/

theorem accessAct_request_free {l : Locality} {s : State} (h : s.activeLocty = none) :
    accessAct l 0x02#8 s = newActiveLocality (some l) s := by
  rw [accessAct, accessStep2_of_no_release rfl, accessStep3_of_no_clear rfl, accessStep4_of_no_seize rfl,
    accessStep5_free rfl h]
  rfl

theorem accessAct_request_other {l a : Locality} {s : State} (hinv : DeviceInv s) (hl : l ≠ 4)
    (h : s.activeLocty = some a) (ha : a ≠ l) :
    accessAct l 0x02#8 s = s.setAccess l ((s.bank l).access ||| 0x02#8) := by
  have hnot : s.activeLocty ≠ some l := by simpa [h] using ha
  have hset := hinv.setAccess hl ((hinv.bankOk l).access.setBits (m := accRequestUse) hnot (by decide))
  rw [accessAct, accessStep2_of_no_release rfl, accessStep3_of_no_clear rfl, accessStep4_of_no_seize rfl,
    accessStep5_record rfl h ha]
  exact hset.newActiveLocality_self

theorem accessAct_request_owner {l : Locality} {s : State} (hinv : DeviceInv s) (h : s.activeLocty = some l) :
    accessAct l 0x02#8 s = s := by
  rw [accessAct, accessStep2_of_no_release rfl, accessStep3_of_no_clear rfl, accessStep4_of_no_seize rfl,
    accessStep5_owner h]
  exact hinv.newActiveLocality_self

theorem accessAct_giveUp {l : Locality} {b : BitVec 8} {s : State} (hrelease : anySet b accActiveLocality = true)
    (hclear : anySet b accBeenSeized = false) (hseize : anySet b accSeize = false) (howner : s.activeLocty = some l)
    (hreq : s.highestRequester = none) : accessAct l b s = newActiveLocality none s := by
  rw [accessAct, accessStep2_giveUp hrelease howner hreq, accessStep3_of_no_clear hclear,
    accessStep4_of_no_seize hseize, accessStep5_owner howner]
  rfl

theorem accessAct_handOver {l nl : Locality} {s : State} (howner : s.activeLocty = some l)
    (hreq : s.highestRequester = some nl) : accessAct l 0x20#8 s = prepAbort (some l) nl s := by
  rw [accessAct, accessStep2_handOver rfl howner hreq, accessStep3_of_no_clear rfl, accessStep4_of_no_seize rfl,
    accessStep5_of_no_request rfl]
  rfl

theorem DeviceInv.withdraw {s : State} (h : DeviceInv s) {l : Locality} (hl : l ≠ 4) :
    DeviceInv (s.setAccess l ((s.bank l).access &&& 0xFD#8)) :=
  h.setAccess hl ((h.bankOk l).access.clearBits (m := accRequestUse) (by decide))

theorem accessAct_withdraw {l : Locality} {s : State} (hinv : DeviceInv s) (hl : l ≠ 4)
    (howner : s.activeLocty ≠ some l) : accessAct l 0x20#8 s = s.setAccess l ((s.bank l).access &&& 0xFD#8) := by
  rw [accessAct, accessStep2_withdraw rfl howner, accessStep3_of_no_clear rfl, accessStep4_of_no_seize rfl,
    accessStep5_of_no_request rfl]
  exact (hinv.withdraw hl).newActiveLocality_self

theorem accessAct_seize {l : Locality} {s : State} (h : s.CanSeize l) :
    accessAct l 0x08#8 s = prepAbort s.activeLocty l (recordSeize l s) := by
  rw [accessAct, accessStep2_of_no_release rfl, accessStep3_of_no_clear rfl, accessStep4_seize rfl h,
    accessStep5_of_no_request rfl]
  rfl

theorem accessAct_seize_refused {l : Locality} {s : State} (hinv : DeviceInv s) (h : ¬ s.CanSeize l) :
    accessAct l 0x08#8 s = s := by
  rw [accessAct, accessStep2_of_no_release rfl, accessStep3_of_no_clear rfl, accessStep4_refused h,
    accessStep5_of_no_request rfl]
  exact hinv.newActiveLocality_self

/-! ## A release to a requester, exactly -/

/-- The old owner's ACCESS, seized or released (spec/41_access.md R148). -/
theorem oldOwnerAccess_some (s : State) (o n : Locality) :
    oldOwnerAccess s o (some n) = if (s.bank n).access &&& 0x08#8 ≠ 0#8 then ((s.bank o).access &&& 0xDF#8) ||| 0x10#8
      else (s.bank o).access &&& 0xDD#8 := by
  unfold oldOwnerAccess
  exact if_congr anySet_eq_true rfl rfl

theorem oldOwnerAccess_none (s : State) (o : Locality) : oldOwnerAccess s o none = (s.bank o).access &&& 0xDD#8 := rfl

theorem prepAbort_release {s : State} (hexec : s.anyExecution = false) {l nl : Locality}
    (howner : s.activeLocty = some l) (hne : l ≠ nl) : prepAbort (some l) nl s = raiseIrq (some nl) intLocalityChanged
      { (s.setAccess l (if (s.bank nl).access &&& 0x08#8 ≠ 0#8 then ((s.bank l).access &&& 0xDF#8) ||| 0x10#8
          else (s.bank l).access &&& 0xDD#8)).setAccess nl (((s.bank nl).access ||| 0x20#8) &&& 0xF5#8) with
        activeLocty := some nl, nextLocty := none, abortingLocty := none, rwOffset := 0#16 } := by
  rw [prepAbort_now_of_ne hexec (by simpa using hne), ← oldOwnerAccess_some]
  exact newActiveLocality_of_other (s := s.settled) howner hne

/-- Under the invariant the owner is no requester. -/
theorem DeviceInv.owner_ne_requester {s : State} (h : DeviceInv s) {l nl : Locality} (howner : s.activeLocty = some l)
    (hreq : s.highestRequester = some nl) : l ≠ nl := by
  rintro rfl
  exact (h.highestRequester hreq).2 howner

theorem DeviceInv.ne_four {s : State} (h : DeviceInv s) {l : Locality} (howner : s.activeLocty = some l) : l ≠ 4 := by
  rintro rfl
  exact h.owner_ne_four howner

/-! ## The obligations of one action -/

/-- Settles O19: the request of a free interface is the final hand-over to the writer. -/
theorem requestFreeInterface : Obligations.RequestFreeInterface := by
  unfold Obligations.RequestFreeInterface
  intro n l lane v s hl hs hfree hbits
  rw [exec_wrAccess_pageOf n lane v hl hs, accessWrite_of_bits hbits rfl, accessAct_request_free hfree,
    newActiveLocality_of_free hfree]
  rfl

/-- Settles O20: step 5 records another's request and skips the owner's; the final hand-over is to the present owner. -/
theorem requestOwnedInterface : Obligations.RequestOwnedInterface := by
  unfold Obligations.RequestOwnedInterface
  intro n l a lane v s hinv hl hs howner hbits
  rw [exec_wrAccess_pageOf n lane v hl hs, accessWrite_of_bits hbits rfl]
  constructor
  · intro ha
    rw [accessAct_request_other hinv hl howner ha]
    rfl
  · rintro rfl
    rw [accessAct_request_owner hinv howner]
    rfl

/-- Settles O21: with no requester the release leaves a final hand-over to nobody. -/
theorem releaseToNobody : Obligations.ReleaseToNobody := by
  unfold Obligations.ReleaseToNobody
  intro n l lane v s hl hs howner hnone hbits
  rw [exec_wrAccess_pageOf n lane v hl hs, accessWrite_of_bits hbits rfl,
    accessAct_giveUp rfl rfl rfl howner (s.highestRequester_eq_none_iff.2 hnone), newActiveLocality_nobody howner]
  rfl

/-- Settles O22: the release starts a hand-over to the highest requester, which waits exactly while something is in
EXECUTION. -/
theorem releaseToHighestRequester : Obligations.ReleaseToHighestRequester := by
  unfold Obligations.ReleaseToHighestRequester
  intro n l nl lane v s hinv hs howner hreq hmax hbits
  have hhighest := State.highestRequester_eq_some hreq hmax
  rw [exec_wrAccess_pageOf n lane v (hinv.ne_four howner) hs, accessWrite_of_bits hbits rfl,
    accessAct_handOver howner hhighest]
  constructor
  · intro hidle
    rw [prepAbort_release (State.anyExecution_eq_false hidle) howner (hinv.owner_ne_requester howner hhighest)]
    rfl
  · intro hexec
    rw [prepAbort_deferred (s.anyExecution_iff.2 hexec)]
    rfl

/-- Settles O23: step 2 clears the writer's own request, and the final hand-over is to the present owner. -/
theorem withdrawRequest : Obligations.WithdrawRequest := by
  unfold Obligations.WithdrawRequest
  intro n l lane v s hinv hl hs howner hbits
  rw [exec_wrAccess_pageOf n lane v hl hs, accessWrite_of_bits hbits rfl, accessAct_withdraw hinv hl howner]
  rfl

/-- Settles O25: each of the four conditions refuses the seize. -/
theorem seizeIgnored : Obligations.SeizeIgnored := by
  unfold Obligations.SeizeIgnored
  intro n l lane v s hinv hl hs hbits hwhy
  have hrefused : ¬ s.CanSeize l := by
    intro hcan
    rcases hwhy with ⟨a, ha, hle⟩ | ⟨k, hk, hseize⟩ | hseize
    · exact absurd (hcan.above_owner a ha) (not_lt.2 hle)
    · exact hseize (hcan.higher_clear k hk)
    · exact hseize hcan.own_clear
  rw [exec_wrAccess_pageOf n lane v hl hs, accessWrite_of_seize hbits, accessAct_seize_refused hinv hrefused]
  rfl

end Sys2Proof.Machine
end

section
/-! PROOFS. ACCESS writes with several effects: a release together with a request, and a seize with the masking of the
seizes below it (spec/41_access.md R143, R145, R146). -/

namespace Sys2Proof.Machine

/-! ## Stores commute with stores elsewhere and with the interrupt primitive -/

theorem State.setAccess_comm (s : State) {k l : Locality} (h : k ≠ l) (x y : BitVec 8) :
    (s.setAccess k x).setAccess l y = (s.setAccess l y).setAccess k x := by
  refine State.ext_banks (fun j => ?_) rfl
  simp only [State.bank_setAccess]
  by_cases hk : j = k
  · subst hk; simp [h]
  · simp [hk, Ne.symm h]

theorem State.setAccess_setInts (s : State) (k l : Locality) (x : BitVec 8) (y : Word) :
    (s.setInts k y).setAccess l x = (s.setAccess l x).setInts k y := by
  refine State.ext_banks (fun j => ?_) rfl
  simp only [State.bank_setAccess, State.bank_setInts]
  by_cases hl : j = l
  · subst hl
    by_cases hk : j = k
    · subst hk; simp
    · simp [hk]
  · by_cases hk : j = k
    · subst hk; simp [hl]
    · simp [hk, hl]

theorem raiseIrq_setAccess (o : Option Locality) (m : Word) (s : State) (l : Locality) (x : BitVec 8) :
    (raiseIrq o m s).setAccess l x = raiseIrq o m (s.setAccess l x) := by
  cases o with
  | none => rfl
  | some k =>
    simp only [raiseIrq, State.setAccess_fields, ← State.setAccess_setInts]
    exact apply_ite (fun u : State => u.setAccess l x) _ _ _

/-! ## A release together with a request -/

/-- A request stored by l after the hand-over from l: the same hand-over with the request in the old owner's ACCESS. -/
theorem prepAbort_release_record {s : State} (hexec : s.anyExecution = false) {l nl : Locality}
    (howner : s.activeLocty = some l) (hne : l ≠ nl) :
    (prepAbort (some l) nl s).setAccess l (setBits ((prepAbort (some l) nl s).bank l).access accRequestUse) =
      raiseIrq (some nl) intLocalityChanged
        { (s.setAccess l ((if (s.bank nl).access &&& 0x08#8 ≠ 0#8 then ((s.bank l).access &&& 0xDF#8) ||| 0x10#8
            else (s.bank l).access &&& 0xDD#8) ||| 0x02#8)).setAccess nl
            (((s.bank nl).access ||| 0x20#8) &&& 0xF5#8) with
          activeLocty := some nl, nextLocty := none, abortingLocty := none, rwOffset := 0#16 } := by
  rw [prepAbort_release hexec howner hne, raiseIrq_setAccess]
  generalize (if (s.bank nl).access &&& 0x08#8 ≠ 0#8 then ((s.bank l).access &&& 0xDF#8) ||| 0x10#8
    else (s.bank l).access &&& 0xDD#8) = old
  generalize ((s.bank nl).access ||| 0x20#8) &&& 0xF5#8 = taken
  have hcomm : ((s.setAccess l old).setAccess nl taken).setAccess l (old ||| 0x02#8) =
      (s.setAccess l (old ||| 0x02#8)).setAccess nl taken := by
    rw [State.setAccess_comm _ (Ne.symm hne), State.setAccess_setAccess]
  have hread : (((s.setAccess l old).setAccess nl taken).bank l).access = old := by simp [hne]
  rw [← hcomm]
  simp only [raiseIrq_bank]
  change raiseIrq _ _ (State.setAccess _ l (setBits (((s.setAccess l old).setAccess nl taken).bank l).access _)) = _
  rw [hread]
  rfl

/-- For a locality that is not the owner, the bits 1 and 5 are the withdrawal followed by a request. -/
theorem accessAct_withdraw_request {l : Locality} {s : State} (howner : s.activeLocty ≠ some l) :
    accessAct l 0x22#8 s = accessAct l 0x02#8 (s.setAccess l ((s.bank l).access &&& 0xFD#8)) := by
  rw [accessAct, accessStep2_withdraw rfl howner, accessStep3_of_no_clear rfl, accessStep4_of_no_seize rfl, accessAct,
    accessStep2_of_no_release rfl, accessStep3_of_no_clear rfl, accessStep4_of_no_seize rfl]
  rfl

/-- The bits 1 and 5 of the owner with a requester: the hand-over, then a request of what is by then another's
interface, or of the owner's own while the hand-over is pending. -/
theorem accessAct_handOver_request {l nl : Locality} {s : State} (howner : s.activeLocty = some l)
    (hreq : s.highestRequester = some nl) :
    accessAct l 0x22#8 s = accessFinish (accessStep5 l 0x22#8 ⟨prepAbort (some l) nl s, s.activeLocty, true⟩) := by
  rw [accessAct, accessStep2_handOver rfl howner hreq, accessStep3_of_no_clear rfl, accessStep4_of_no_seize rfl]

/-! A withdrawn request leaves no trace when the same write stores it again or takes the interface. -/

theorem access_withdrawn_record : ∀ a : BitVec 8, (a &&& 0xFD#8) ||| 0x02#8 = a ||| 0x02#8 := by
  decide

theorem access_withdrawn_take : ∀ a : BitVec 8, ((a &&& 0xFD#8) ||| 0x20#8) &&& 0xF5#8 = (a ||| 0x20#8) &&& 0xF5#8 := by
  decide

/-- Settles O27: the release or the withdrawal of step 2, then the request of step 5 on the state it leaves. -/
theorem releaseAndRequest : Obligations.ReleaseAndRequest := by
  unfold Obligations.ReleaseAndRequest
  intro n l lane v s hinv hl hs hbits
  have hwithdrawn := hinv.withdraw hl
  rw [exec_wrAccess_pageOf n lane v hl hs, accessWrite_of_bits hbits rfl]
  refine ⟨fun howner hnone => ?giveUp, fun nl howner hreq hmax => ?handOver, fun a howner ha => ?record,
    fun hfree => ?take⟩
  case giveUp =>
    rw [accessAct_giveUp rfl rfl rfl howner (s.highestRequester_eq_none_iff.2 hnone), newActiveLocality_nobody howner]
    rfl
  case handOver =>
    have hhighest := State.highestRequester_eq_some hreq hmax
    have hne := hinv.owner_ne_requester howner hhighest
    rw [accessAct_handOver_request howner hhighest]
    constructor
    · intro hidle
      have hexec := State.anyExecution_eq_false hidle
      have hnew : (prepAbort (some l) nl s).activeLocty = some nl := by simp [prepAbort_now hexec]
      rw [accessStep5_record rfl hnew (Ne.symm hne), prepAbort_release_record hexec howner hne]
      rfl
    · intro hexec
      rw [prepAbort_deferred (s.anyExecution_iff.2 hexec), accessStep5_owner (by simpa using howner)]
      rfl
  case record =>
    have hnot : s.activeLocty ≠ some l := by simpa [howner] using ha
    rw [accessAct_withdraw_request hnot, accessAct_request_other hwithdrawn hl howner ha, State.setAccess_setAccess]
    simp only [State.setAccess_fields, if_true, access_withdrawn_record]
    rfl
  case take =>
    have hnot : s.activeLocty ≠ some l := by simp [hfree]
    have hfree' : (s.setAccess l ((s.bank l).access &&& 0xFD#8)).activeLocty = none := hfree
    rw [accessAct_withdraw_request hnot, accessAct_request_free hfree', newActiveLocality_of_free hfree',
      State.setAccess_setAccess]
    simp only [State.setAccess_fields, if_true, access_withdrawn_take]
    rfl

/-! ## A seize, exactly

The ACCESS stores that a seize leaves, its SEIZE bits stored and cancelled on the way (spec/41_access.md R145, R148). -/

theorem access_seized_take : ∀ a : BitVec 8, ((a ||| 0x08#8) ||| 0x20#8) &&& 0xF5#8 = (a ||| 0x20#8) &&& 0xF5#8 := by
  decide

theorem access_seized_drop : ∀ a : BitVec 8, ((a &&& 0xF7#8) &&& 0xDF#8) ||| 0x10#8 = (a &&& 0xD7#8) ||| 0x10#8 := by
  decide

theorem access_seize_stored : ∀ a : BitVec 8, (a ||| 0x08#8) &&& 0x08#8 ≠ 0#8 := by
  decide

/-- Recording a seize writes ACCESS stores alone (spec/41_access.md R145). -/
theorem recordSeize_eq (l : Locality) (s : State) :
    recordSeize l s = s.mapBanks (fun k b => { b with access :=
      if k = l then b.access ||| 0x08#8 else if k < l then b.access &&& 0xF7#8 else b.access }) := by
  refine State.ext_banks (fun k => ?_) rfl
  simp only [recordSeize, State.bank_setAccess, State.bank_mapBanks, lt_irrefl, if_false]
  by_cases hk : k = l
  · subst hk
    simp only [if_true]
    rfl
  · simp only [hk, if_false]
    split <;> rfl

theorem Bank.ext_fields {b b' : Bank} (hstate : b.state = b'.state) (haccess : b.access = b'.access)
    (hsts : b.sts = b'.sts) (hiface : b.ifaceId = b'.ifaceId) (hinte : b.inte = b'.inte) (hints : b.ints = b'.ints) :
    b = b' := by
  cases b
  cases b'
  simp_all

/-- A hand-over writes the ACCESS store of the new owner and of another owner before it, and the owner
(spec/41_access.md R148). -/
theorem handOver_eq (new : Option Locality) (s : State) :
    takeOwnership new (dropOldOwner new s) =
      { s.mapBanks (fun k b => { b with access :=
          (if new = some k then (b.access ||| 0x20#8) &&& 0xF5#8
          else if s.activeLocty = some k then oldOwnerAccess s k new else b.access) }) with activeLocty := new } := by
  refine State.ext_banks (fun k => Bank.ext_fields ?_ ?access ?_ ?_ ?_ ?_) ?_
  case access =>
    simp only [handOver_access, State.bank_mk, State.loc_getElem, Fin.eta, State.bank_mapBanks]
    rfl
  all_goals simp

theorem prepAbort_seize {s : State} (hexec : s.anyExecution = false) {l : Locality} (hcan : s.CanSeize l) :
    prepAbort s.activeLocty l (recordSeize l s) = raiseIrq (some l) intLocalityChanged
      { s.mapBanks (fun k b => { b with access :=
          (if k = l then (b.access ||| 0x20#8) &&& 0xF5#8
          else if s.activeLocty = some k then (b.access &&& 0xD7#8) ||| 0x10#8
          else if k < l then b.access &&& 0xF7#8 else b.access) }) with
        activeLocty := some l, nextLocty := none, abortingLocty := none, rwOffset := 0#16 } := by
  have hnot := hcan.not_owner
  have hexec' : (recordSeize l s).anyExecution = false := by simpa [State.anyExecution] using hexec
  rw [prepAbort_now_of_ne hexec' hnot, newActiveLocality_change (by simpa using hnot), handOver_eq, recordSeize_eq]
  congr 1
  refine State.ext_banks (fun k => ?_) rfl
  have hseize : ((s.bank l).access ||| 0x08#8) &&& 0x08#8 ≠ 0#8 := access_seize_stored _
  by_cases hk : k = l
  · subst hk
    simp [access_seized_take]
  · by_cases howner : s.activeLocty = some k
    · simp [oldOwnerAccess_some, hk, Ne.symm hk, howner, hcan.above_owner k howner, hseize, access_seized_drop]
    · simp [hk, Ne.symm hk, howner]

/-- Settles O24: the seize stores its SEIZE bit and starts a hand-over from the owner, which waits exactly while
something is in EXECUTION. -/
theorem seizeTakesInterface : Obligations.SeizeTakesInterface := by
  unfold Obligations.SeizeTakesInterface
  intro n l lane v s _ hl hs howner hown hhigher hbits
  have hcan : s.CanSeize l := ⟨howner, hown, hhigher⟩
  rw [exec_wrAccess_pageOf n lane v hl hs, accessWrite_of_seize hbits, accessAct_seize hcan]
  constructor
  · intro hidle
    rw [prepAbort_seize (State.anyExecution_eq_false hidle) hcan]
    rfl
  · intro hexec
    have hexec' : (recordSeize l s).anyExecution = true := (recordSeize l s).anyExecution_iff.2 (by simpa using hexec)
    rw [prepAbort_deferred hexec', recordSeize_eq]
    rfl

end Sys2Proof.Machine
end

section
/-! PROOFS. ACCESS as it is read, what an ACCESS write can come to (said once, in `AccessOutcome`), the BEEN_SEIZED bit
and the frame of an ACCESS write (spec/41_access.md R140, R141, R144, R151). -/

namespace Sys2Proof.Machine

/-! ## The read value -/

/-- The bits of the ACCESS view (spec/41_access.md R140). -/
theorem accessView_bits (a : BitVec 8) (pending established : Bool) :
    (accessView a pending established).getLsbD 0 = (a.getLsbD 0 || !established) ∧
    (accessView a pending established).getLsbD 1 = a.getLsbD 1 ∧
    (accessView a pending established).getLsbD 2 = (a.getLsbD 2 || pending) ∧
    (accessView a pending established).getLsbD 3 = false ∧
    (accessView a pending established).getLsbD 4 = a.getLsbD 4 ∧
    (accessView a pending established).getLsbD 5 = a.getLsbD 5 ∧
    (accessView a pending established).getLsbD 6 = a.getLsbD 6 ∧
    (accessView a pending established).getLsbD 7 = true ∧
    ∀ k, 8 ≤ k → (accessView a pending established).getLsbD k = false := by
  have hhigh (k : Nat) (hk : 8 ≤ k) (x : BitVec 8) : (x.setWidth 32).getLsbD k = false := by
    rw [BitVec.getLsbD_setWidth, BitVec.getLsbD_of_ge x k hk, Bool.and_false]
  refine ⟨?_, ?_, ?_, ?_, ?_, ?_, ?_, ?_, fun k hk => hhigh k hk _⟩
  all_goals cases pending <;> cases established <;>
    simp [accessView, setBits, clearBits, accSeize, accPendingRequest, accEstablishment, accRegValidSts]

/-- A one-bit mask tests its bit. -/
theorem anySet_requestUse : ∀ a : BitVec 8, anySet a accRequestUse = a.getLsbD 1 := by decide

theorem anySet_activeLocality : ∀ a : BitVec 8, anySet a accActiveLocality = a.getLsbD 5 := by decide

/-- The stored bits that are always 0 (spec/10_state.md R27). -/
theorem access_fixed_bits : ∀ a : BitVec 8, a &&& 0xC5#8 = 0x80#8 →
    a.getLsbD 0 = false ∧ a.getLsbD 2 = false ∧ a.getLsbD 6 = false := by
  decide

theorem State.otherRequests_iff (s : State) (l : Locality) :
    s.otherRequests l = true ↔ ∃ k, k ≠ l ∧ (s.bank k).access.getLsbD 1 = true := by
  simp [State.otherRequests, anySet_requestUse]

/-- Settles O16: the view's bits, with the stored ones as the invariant fixes them. -/
theorem accessReadView : Obligations.AccessReadView := by
  unfold Obligations.AccessReadView
  intro n l lane s hinv hs
  obtain ⟨h0, h1, h2, h3, h4, h5, h6, h7, hhigh⟩ :=
    accessView_bits (s.bank l).access (s.otherRequests l) s.beEstablished
  obtain ⟨hfixed0, hfixed2, hfixed6⟩ := access_fixed_bits _ (hinv.access_fixed l)
  refine ⟨accessRead l s, exec_rdAccess_pageOf n l lane hs, ?_, h1, ?_, h3, h4, ?_, h6.trans hfixed6, h7, hhigh⟩
  · rw [accessRead, h0, hfixed0, Bool.false_or]
  · rw [accessRead, h2, hfixed2, Bool.false_or, State.otherRequests_iff]
  · rw [accessRead, h5, ← anySet_activeLocality, hinv.owner_flag l]

/-! ## What an ACCESS write can come to -/

/-- The store keeps what a write of b asks of BEEN_SEIZED (spec/41_access.md R144). -/
def ClearsBeenSeized (b x : BitVec 8) : Prop := anySet b accBeenSeized = true → x &&& 0x10#8 = 0#8

/-- What an ACCESS write of l can come to: a store of its own, and then the final hand-over (to the present owner, to
nobody, to l) or a hand-over that a release or a seize starts (spec/41_access.md R143, R145 to R147). -/
inductive AccessOutcome (l : Locality) (b : BitVec 8) (s : State) : State → Prop where
  | stored {x : BitVec 8} (hx : ClearsBeenSeized b x) :
      AccessOutcome l b s (newActiveLocality s.activeLocty (s.setAccess l x))
  | gaveUp {x : BitVec 8} (hx : ClearsBeenSeized b x) (howner : s.activeLocty = some l) :
      AccessOutcome l b s (newActiveLocality none (s.setAccess l x))
  | took {x : BitVec 8} (hx : ClearsBeenSeized b x) (hfree : s.activeLocty = none) :
      AccessOutcome l b s (newActiveLocality (some l) (s.setAccess l x))
  | handedOver {nl : Locality} {x : BitVec 8} (hx : ClearsBeenSeized b x) (howner : s.activeLocty = some l)
      (hreq : s.highestRequester = some nl) : AccessOutcome l b s ((prepAbort (some l) nl s).setAccess l x)
  | seized {x : BitVec 8} (hx : ClearsBeenSeized b x) (hcan : (s.setAccess l x).CanSeize l) :
      AccessOutcome l b s (prepAbort s.activeLocty l (recordSeize l (s.setAccess l x)))

/-- Step 3 is a store that keeps what the write asks of BEEN_SEIZED. -/
theorem accessStep3_store (l : Locality) (b : BitVec 8) (s : State) (c : Option Locality) (d : Bool) :
    ∃ x, ClearsBeenSeized b x ∧ accessStep3 l b ⟨s, c, d⟩ = ⟨s.setAccess l x, c, d⟩ := by
  cases h : anySet b accBeenSeized with
  | false =>
    exact ⟨(s.bank l).access, by simp [ClearsBeenSeized, h], by rw [accessStep3_of_no_clear h, s.setAccess_self]⟩
  | true => exact ⟨_, fun _ => clearBits_and_of_covered _ rfl, accessStep3_clear h⟩

/-- Step 5 after a store of l's: another store, or the candidacy for a free interface. -/
theorem accessStep5_store {l : Locality} {b x : BitVec 8} {s : State} (hx : ClearsBeenSeized b x) (c : Option Locality)
    (d : Bool) :
    (∃ y, ClearsBeenSeized b y ∧ accessStep5 l b ⟨s.setAccess l x, c, d⟩ = ⟨s.setAccess l y, c, d⟩) ∨
      (s.activeLocty = none ∧ accessStep5 l b ⟨s.setAccess l x, c, d⟩ = ⟨s.setAccess l x, some l, d⟩) := by
  cases hreq : anySet b accRequestUse with
  | false => exact .inl ⟨x, hx, accessStep5_of_no_request hreq⟩
  | true =>
    cases howner : s.activeLocty with
    | none => exact .inr ⟨rfl, accessStep5_free hreq howner⟩
    | some a =>
      by_cases ha : a = l
      · subst ha
        exact .inl ⟨x, hx, accessStep5_owner howner⟩
      · refine .inl ⟨setBits x accRequestUse, fun hb => ?_, ?_⟩
        · rw [setBits_and, hx hb]
          rfl
        · rw [accessStep5_record (s := s.setAccess l x) hreq howner ha, State.setAccess_setAccess]
          simp

/-- Steps 3 to 5 of a write without SEIZE that has not started a hand-over and whose candidate is the owner. -/
theorem accessOutcome_of_no_seize {l : Locality} {b x : BitVec 8} {s : State} (hseize : anySet b accSeize = false) :
    AccessOutcome l b s (accessFinish (accessStep5 l b (accessStep4 l b (accessStep3 l b
      ⟨s.setAccess l x, s.activeLocty, false⟩)))) := by
  obtain ⟨y, hy, hstep3⟩ := accessStep3_store l b (s.setAccess l x) s.activeLocty false
  rw [hstep3, accessStep4_of_no_seize hseize, State.setAccess_setAccess]
  obtain ⟨z, hz, hstep5⟩ | ⟨hfree, hstep5⟩ := accessStep5_store (s := s) hy s.activeLocty false
  · rw [hstep5]
    exact .stored hz
  · rw [hstep5]
    exact .took hy hfree

/-- Steps 2 to 5 and the final hand-over come to one of the outcomes; SEIZE excludes the bits 1 and 5 (spec/41_access.md
R142). -/
theorem accessAct_outcome (l : Locality) {b : BitVec 8} (s : State)
    (hmask : anySet b accSeize = true → anySet b accRequestUse = false ∧ anySet b accActiveLocality = false) :
    AccessOutcome l b s (accessAct l b s) := by
  rw [accessAct]
  cases hseize : anySet b accSeize with
  | true =>
    obtain ⟨hreq, hrelease⟩ := hmask hseize
    obtain ⟨x, hx, hstep3⟩ := accessStep3_store l b s s.activeLocty false
    rw [accessStep2_of_no_release hrelease, hstep3, accessStep5_of_no_request hreq]
    by_cases hcan : (s.setAccess l x).CanSeize l
    · rw [accessStep4_seize hseize hcan]
      exact .seized hx hcan
    · rw [accessStep4_refused hcan]
      exact .stored hx
  | false =>
    cases hrelease : anySet b accActiveLocality with
    | false =>
      rw [accessStep2_of_no_release hrelease]
      simpa only [State.setAccess_self] using
        accessOutcome_of_no_seize (l := l) (x := (s.bank l).access) (s := s) hseize
    | true =>
      by_cases howner : s.activeLocty = some l
      · cases hnext : s.highestRequester with
        | none =>
          obtain ⟨x, hx, hstep3⟩ := accessStep3_store l b s none false
          rw [accessStep2_giveUp hrelease howner hnext, hstep3, accessStep4_of_no_seize hseize,
            accessStep5_owner (s := s.setAccess l x) howner]
          exact .gaveUp hx howner
        | some nl =>
          obtain ⟨x, hx, hstep3⟩ := accessStep3_store l b (prepAbort (some l) nl s) s.activeLocty true
          rw [accessStep2_handOver hrelease howner hnext, hstep3, accessStep4_of_no_seize hseize]
          obtain ⟨y, hy, hstep5⟩ | ⟨_, hstep5⟩ :=
            accessStep5_store (s := prepAbort (some l) nl s) hx s.activeLocty true
          · rw [hstep5]
            exact .handedOver hy howner hnext
          · rw [hstep5]
            exact .handedOver hx howner hnext
      · rw [accessStep2_withdraw hrelease howner]
        exact accessOutcome_of_no_seize hseize

/-- What is left of each bit of a byte after the masking of step 1 (spec/41_access.md R142). -/
theorem accessStep1_masks : ∀ b : BitVec 8, anySet (accessStep1 b) accSeize = true →
    anySet (accessStep1 b) accRequestUse = false ∧ anySet (accessStep1 b) accActiveLocality = false := by
  decide

theorem accessWrite_outcome (l : Locality) (wv : Word) (s : State) :
    AccessOutcome l (accessStep1 (wv.setWidth 8)) s (accessWrite l wv s) :=
  accessAct_outcome l s (accessStep1_masks _)

/-! ## The BEEN_SEIZED bit -/

/-- A hand-over keeps every BEEN_SEIZED flag, but sets that of an owner it drops for another locality
(spec/41_access.md R148). -/
theorem newActiveLocality_beenSeized (new : Option Locality) (s : State) (k : Locality) :
    ((newActiveLocality new s).bank k).access &&& 0x10#8 = (s.bank k).access &&& 0x10#8 ∨
      (s.activeLocty = some k ∧ (∃ n, new = some n ∧ n ≠ k) ∧
        ((newActiveLocality new s).bank k).access &&& 0x10#8 = 0x10#8) := by
  have htake : ∀ a : BitVec 8, ((a ||| 0x20#8) &&& 0xF5#8) &&& 0x10#8 = a &&& 0x10#8 := by decide
  have hdrop : ∀ a : BitVec 8, (a &&& 0xDD#8) &&& 0x10#8 = a &&& 0x10#8 := by decide
  have hseized : ∀ a : BitVec 8, ((a &&& 0xDF#8) ||| 0x10#8) &&& 0x10#8 = 0x10#8 := by decide
  rw [newActiveLocality_access, handOver_eq]
  by_cases hk : new = some k
  · simp [hk, htake]
  · by_cases howner : s.activeLocty = some k
    · cases new with
      | none => simp [howner, oldOwnerAccess_none, hdrop]
      | some n =>
        have hn : n ≠ k := by simpa using hk
        by_cases hseize : (s.bank n).access &&& 0x08#8 = 0#8
        · simp [howner, hn, oldOwnerAccess_some, hseize, hdrop]
        · simp [howner, hn, oldOwnerAccess_some, hseize, hseized]
    · simp [hk, howner]

/-- The same of a hand-over that may be deferred (spec/44_abort.md R230). -/
theorem prepAbort_beenSeized (a : Option Locality) (n : Locality) (s : State) (k : Locality) :
    ((prepAbort a n s).bank k).access &&& 0x10#8 = (s.bank k).access &&& 0x10#8 ∨
      (s.activeLocty = some k ∧ n ≠ k ∧ ((prepAbort a n s).bank k).access &&& 0x10#8 = 0x10#8) := by
  cases hexec : s.anyExecution with
  | true =>
    rw [prepAbort_deferred hexec]
    exact .inl (by simp)
  | false =>
    rw [prepAbort_now hexec, abort_access rfl]
    obtain h | ⟨howner, ⟨m, hm, hne⟩, h⟩ :=
      newActiveLocality_beenSeized (some n) { s with abortingLocty := a, nextLocty := some n } k
    · exact .inl h
    · cases hm
      exact .inr ⟨howner, hne, h⟩

/-- An ACCESS write of l with BEEN_SEIZED leaves l's flag clear, whatever else it carries (spec/41_access.md R144). -/
theorem AccessOutcome.own_cleared {l : Locality} {b : BitVec 8} {s t : State} (h : AccessOutcome l b s t)
    (hb : anySet b accBeenSeized = true) : (t.bank l).access &&& 0x10#8 = 0#8 := by
  cases h with
  | @stored x hx =>
    obtain hk | ⟨howner, ⟨n, hn, hne⟩, _⟩ := newActiveLocality_beenSeized s.activeLocty (s.setAccess l x) l
    · simpa [hx hb] using hk
    · exact absurd (Option.some.inj (hn.symm.trans howner)) hne
  | @gaveUp x hx howner =>
    obtain hk | ⟨_, ⟨n, hn, _⟩, _⟩ := newActiveLocality_beenSeized none (s.setAccess l x) l
    · simpa [hx hb] using hk
    · cases hn
  | @took x hx hfree =>
    obtain hk | ⟨_, ⟨n, hn, hne⟩, _⟩ := newActiveLocality_beenSeized (some l) (s.setAccess l x) l
    · simpa [hx hb] using hk
    · exact absurd (Option.some.inj hn).symm hne
  | @handedOver nl x hx howner hreq => simpa using hx hb
  | @seized x hx hcan =>
    obtain hk | ⟨_, hne, _⟩ := prepAbort_beenSeized s.activeLocty l (recordSeize l (s.setAccess l x)) l
    · simpa [setBits_and, hx hb, accSeize] using hk
    · exact absurd rfl hne

/-- No ACCESS write of l clears another's BEEN_SEIZED flag (spec/41_access.md R144). -/
theorem AccessOutcome.other_kept {l k : Locality} {b : BitVec 8} {s t : State} (h : AccessOutcome l b s t) (hk : k ≠ l)
    (hflag : (s.bank k).access &&& 0x10#8 ≠ 0#8) : (t.bank k).access &&& 0x10#8 ≠ 0#8 := by
  have hnew (new : Option Locality) (x : BitVec 8) :
      ((newActiveLocality new (s.setAccess l x)).bank k).access &&& 0x10#8 ≠ 0#8 := by
    obtain heq | ⟨_, _, heq⟩ := newActiveLocality_beenSeized new (s.setAccess l x) k
    · rw [heq]
      simpa [hk] using hflag
    · rw [heq]
      decide
  have habort (a : Option Locality) (n : Locality) (u : State) (hu : (u.bank k).access &&& 0x10#8 ≠ 0#8) :
      ((prepAbort a n u).bank k).access &&& 0x10#8 ≠ 0#8 := by
    obtain heq | ⟨_, _, heq⟩ := prepAbort_beenSeized a n u k
    · rwa [heq]
    · rw [heq]
      decide
  cases h with
  | stored hx => exact hnew _ _
  | gaveUp hx howner => exact hnew _ _
  | took hx hfree => exact hnew _ _
  | @handedOver nl x hx howner hreq => simpa [hk] using habort (some l) nl s hflag
  | @seized x hx hcan =>
    refine habort _ _ _ ?_
    have hseize : clearBits (s.bank k).access accSeize &&& 0x10#8 = (s.bank k).access &&& 0x10#8 :=
      clearBits_and_of_disjoint _ rfl
    simp only [recordSeize_bank, State.setAccess_fields, hk, if_false]
    split
    · rwa [hseize]
    · exact hflag

/-! ## A write with BEEN_SEIZED and the same write without it -/

/-- l clears its BEEN_SEIZED flag (spec/41_access.md R144). -/
def clearBeenSeized (l : Locality) (s : State) : State := s.setAccess l ((s.bank l).access &&& 0xEF#8)

theorem accessStep3_eq_clearBeenSeized {l : Locality} {b : BitVec 8} {s : State} {c : Option Locality} {d : Bool}
    (h : anySet b accBeenSeized = true) : accessStep3 l b ⟨s, c, d⟩ = ⟨clearBeenSeized l s, c, d⟩ :=
  accessStep3_clear h

/-- A store of other bits of l and the clearing may change places. -/
theorem clearBeenSeized_setAccess (l : Locality) (s : State) (f : BitVec 8 → BitVec 8)
    (hf : ∀ a, f a &&& 0xEF#8 = f (a &&& 0xEF#8)) :
    clearBeenSeized l (s.setAccess l (f (s.bank l).access)) =
      (clearBeenSeized l s).setAccess l (f ((clearBeenSeized l s).bank l).access) := by
  simp only [clearBeenSeized, State.setAccess_setAccess, State.setAccess_fields, if_true, hf]

theorem access_withdraw_clear : ∀ a : BitVec 8,
    clearBits a accRequestUse &&& 0xEF#8 = clearBits (a &&& 0xEF#8) accRequestUse := by
  decide

theorem access_record_clear : ∀ a : BitVec 8,
    setBits a accRequestUse &&& 0xEF#8 = setBits (a &&& 0xEF#8) accRequestUse := by
  decide

theorem access_drop_clear : ∀ a : BitVec 8, (a &&& 0xDD#8) &&& 0xEF#8 = (a &&& 0xEF#8) &&& 0xDD#8 := by
  decide

section WithoutBit
variable {l : Locality} {b : BitVec 8} {w : AccessWork}

/-- The byte without its BEEN_SEIZED bit has the other acting bits. -/
theorem without_beenSeized (b : BitVec 8) :
    anySet (b &&& 0x2A#8) accBeenSeized = false ∧ anySet (b &&& 0x2A#8) accActiveLocality = anySet b accActiveLocality ∧
    anySet (b &&& 0x2A#8) accSeize = anySet b accSeize ∧
    anySet (b &&& 0x2A#8) accRequestUse = anySet b accRequestUse := by
  refine ⟨?_, anySet_and_of_subset _ rfl, anySet_and_of_subset _ rfl, anySet_and_of_subset _ rfl⟩
  rw [anySet_eq_false, BitVec.and_assoc, show (0x2A#8 &&& accBeenSeized : BitVec 8) = 0#8 from rfl, BitVec.and_zero]

/-- Steps 4 and 5 do not look at BEEN_SEIZED. -/
theorem accessStep4_without_beenSeized : accessStep4 l (b &&& 0x2A#8) w = accessStep4 l b w := by
  obtain ⟨_, _, hseize, _⟩ := without_beenSeized b
  simp only [accessStep4, hseize]

theorem accessStep5_without_beenSeized : accessStep5 l (b &&& 0x2A#8) w = accessStep5 l b w := by
  obtain ⟨_, _, _, hreq⟩ := without_beenSeized b
  simp only [accessStep5, hreq]

/-- Steps 2 to 5 without the bit: step 3 falls away. -/
theorem accessAct_without_beenSeized (s : State) :
    accessAct l (b &&& 0x2A#8) s =
      accessFinish (accessStep5 l b (accessStep4 l b (accessStep2 l b ⟨s, s.activeLocty, false⟩))) := by
  obtain ⟨hbeen, hrelease, _, _⟩ := without_beenSeized b
  have hstep2 : accessStep2 l (b &&& 0x2A#8) ⟨s, s.activeLocty, false⟩ = accessStep2 l b ⟨s, s.activeLocty, false⟩ := by
    simp only [accessStep2, hrelease]
  rw [accessAct, accessStep3_of_no_clear hbeen, accessStep4_without_beenSeized, accessStep5_without_beenSeized, hstep2]

/-- Except in a release by the owner the clearing may come first. -/
theorem accessAct_clear_first {s : State} (hbeen : anySet b accBeenSeized = true)
    (hnot : ¬ (s.activeLocty = some l ∧ anySet b accActiveLocality = true)) :
    accessAct l b s = accessAct l (b &&& 0x2A#8) (clearBeenSeized l s) := by
  have howner : (clearBeenSeized l s).activeLocty = s.activeLocty := rfl
  rw [accessAct_without_beenSeized, accessAct, howner]
  cases hrelease : anySet b accActiveLocality with
  | false =>
    rw [accessStep2_of_no_release hrelease, accessStep2_of_no_release hrelease, accessStep3_eq_clearBeenSeized hbeen]
  | true =>
    have hother : s.activeLocty ≠ some l := fun h => hnot ⟨h, hrelease⟩
    rw [accessStep2_withdraw hrelease hother, accessStep2_withdraw (s := clearBeenSeized l s) hrelease hother,
      accessStep3_eq_clearBeenSeized hbeen]
    rw [clearBeenSeized_setAccess l s (clearBits · accRequestUse) access_withdraw_clear]

/-- Step 5 and the clearing may change places. -/
theorem accessStep5_clearBeenSeized (s : State) (c : Option Locality) (d : Bool) :
    accessStep5 l b ⟨clearBeenSeized l s, c, d⟩ =
      { accessStep5 l b ⟨s, c, d⟩ with st := clearBeenSeized l (accessStep5 l b ⟨s, c, d⟩).st } := by
  cases hreq : anySet b accRequestUse with
  | false => rw [accessStep5_of_no_request hreq, accessStep5_of_no_request hreq]
  | true =>
    cases howner : s.activeLocty with
    | none => rw [accessStep5_free hreq howner, accessStep5_free (s := clearBeenSeized l s) hreq howner]
    | some a =>
      by_cases ha : a = l
      · subst ha
        rw [accessStep5_owner howner, accessStep5_owner (s := clearBeenSeized a s) howner]
      · rw [accessStep5_record hreq howner ha, accessStep5_record (s := clearBeenSeized l s) hreq howner ha,
          clearBeenSeized_setAccess l s (setBits · accRequestUse) access_record_clear]

theorem newActiveLocality_nobody_clearBeenSeized {s : State} (howner : s.activeLocty = some l) :
    newActiveLocality none (clearBeenSeized l s) = clearBeenSeized l (newActiveLocality none s) := by
  have hcomm := clearBeenSeized_setAccess l s (· &&& 0xDD#8) access_drop_clear
  rw [newActiveLocality_nobody howner, newActiveLocality_nobody (s := clearBeenSeized l s) howner, ← hcomm]
  rfl

/-- In a release by the owner the clearing may come last. -/
theorem accessAct_clear_last {s : State} (hbeen : anySet b accBeenSeized = true) (hseize : anySet b accSeize = false)
    (hrelease : anySet b accActiveLocality = true) (howner : s.activeLocty = some l) :
    accessAct l b s = clearBeenSeized l (accessAct l (b &&& 0x2A#8) s) := by
  rw [accessAct_without_beenSeized, accessAct, accessStep4_of_no_seize hseize, accessStep4_of_no_seize hseize]
  cases hnext : s.highestRequester with
  | none =>
    rw [accessStep2_giveUp hrelease howner hnext, accessStep3_eq_clearBeenSeized hbeen, accessStep5_clearBeenSeized,
      accessStep5_owner howner]
    exact newActiveLocality_nobody_clearBeenSeized howner
  | some nl =>
    rw [accessStep2_handOver hrelease howner hnext, accessStep3_eq_clearBeenSeized hbeen, accessStep5_clearBeenSeized]
    have hdeferred : (accessStep5 l b ⟨prepAbort (some l) nl s, s.activeLocty, true⟩).deferred = true := by
      unfold accessStep5
      dsimp only
      split_ifs
      · split <;> rfl
      · rfl
    simp only [accessFinish, hdeferred, if_true]

end WithoutBit

/-! The masking of step 1 seen through other masks (spec/41_access.md R142). -/

theorem accessStep1_and_acting : ∀ b : BitVec 8, accessStep1 b &&& 0x3A#8 = accessStep1 (b &&& 0x3A#8) := by decide

theorem accessStep1_without_beenSeized : ∀ b : BitVec 8, accessStep1 (b &&& 0x2A#8) = accessStep1 b &&& 0x2A#8 := by
  decide

theorem accessStep1_beenSeized : ∀ b : BitVec 8, b &&& 0x10#8 ≠ 0#8 → anySet (accessStep1 b) accBeenSeized = true := by
  decide

/-- ACTIVE_LOCALITY is left exactly when SEIZE is not written. -/
theorem accessStep1_release : ∀ b : BitVec 8,
    anySet (accessStep1 b) accActiveLocality = true ↔ b &&& 0x28#8 = 0x20#8 := by
  decide

theorem accessWrite_without_beenSeized {l : Locality} {wv wv' : Word} {s : State}
    (h : wv'.setWidth 8 &&& 0x3A#8 = wv.setWidth 8 &&& 0x2A#8) :
    accessWrite l wv' s = accessAct l (accessStep1 (wv.setWidth 8) &&& 0x2A#8) s := by
  rw [accessWrite_eq_accessAct, ← accessAct_masked, accessStep1_and_acting, h, accessStep1_without_beenSeized]

theorem accessAct_beenSeized {l : Locality} {s : State} (hinv : DeviceInv s) (hl : l ≠ 4) :
    accessAct l 0x10#8 s = clearBeenSeized l s := by
  have hset := hinv.setAccess hl ((hinv.bankOk l).access.clearBits (m := accBeenSeized) (by decide))
  rw [accessAct, accessStep2_of_no_release rfl, accessStep3_eq_clearBeenSeized rfl, accessStep4_of_no_seize rfl,
    accessStep5_of_no_request rfl]
  exact hset.newActiveLocality_self

/-- Settles O26: the flags by the outcome of the write; alone by step 3; with other bits the clearing moves before or
behind them. -/
theorem beenSeizedClearedByItsOwner : Obligations.BeenSeizedClearedByItsOwner := by
  unfold Obligations.BeenSeizedClearedByItsOwner
  intro n l lane v s hl hs hbit
  have hbeen := accessStep1_beenSeized _ hbit
  have houtcome := accessWrite_outcome l (laneWrite v n lane) s
  have hexec (v : Word) : exec (.wrAccess n (pageOf l) lane v) s = _ := exec_wrAccess_pageOf n lane v hl hs
  refine ⟨⟨_, hexec v, houtcome.own_cleared hbeen, fun k hk => houtcome.other_kept hk⟩, fun hinv halone => ?alone,
    fun v' hv' => ⟨fun hnot => ?first, fun hrelease => ?last⟩⟩
  case alone =>
    rw [hexec, accessWrite_of_bits halone rfl, accessAct_beenSeized hinv hl]
    rfl
  case first =>
    have hs' : (clearBeenSeized l s).beStartupError = false := hs
    rw [← accessStep1_release] at hnot
    rw [hexec, accessWrite_eq_accessAct, accessAct_clear_first hbeen hnot, ← accessWrite_without_beenSeized hv',
      ← exec_wrAccess_pageOf n lane v' hl hs']
    rfl
  case last =>
    rw [← accessStep1_release] at hrelease
    obtain ⟨howner, hrelease⟩ := hrelease
    have hseize : anySet (accessStep1 ((laneWrite v n lane).setWidth 8)) accSeize = false := by
      by_contra h
      obtain ⟨_, hmasked⟩ := accessStep1_masks _ (by simpa using h)
      simp [hmasked] at hrelease
    refine ⟨_, hexec v', ?_⟩
    rw [hexec, accessWrite_eq_accessAct, accessAct_clear_last hbeen hseize hrelease howner,
      ← accessWrite_without_beenSeized hv']
    rfl

/-! ## The frame of an ACCESS write -/

/-- The only sign that t shows of the way from s is LOCALITY_CHANGED, and that only when the owner has changed
(spec/41_access.md R148, spec/44_abort.md R234). -/
structure LocalityChangedOnly (s t : State) : Prop where
  state : ∀ k, (t.bank k).state = (s.bank k).state
  sts : ∀ k, (t.bank k).sts = (s.bank k).sts
  ints : ∀ k, (t.bank k).ints = (s.bank k).ints ∨ (t.bank k).ints = (s.bank k).ints ||| 0x00000004#32
  same_owner : t.activeLocty = s.activeLocty → t.irqLine = s.irqLine ∧ ∀ k, (t.bank k).ints = (s.bank k).ints

theorem newActiveLocality_changedOnly (new : Option Locality) (s : State) :
    LocalityChangedOnly s (newActiveLocality new s) := by
  by_cases h : s.activeLocty = new
  · rw [newActiveLocality_same h]
    exact ⟨by simp, by simp, by simp, by simp⟩
  · rw [newActiveLocality_change h]
    refine ⟨by simp, by simp, fun k => ?_, fun howner => absurd howner (by simpa using Ne.symm h)⟩
    obtain hk | ⟨_, hk⟩ := raiseIrq_ints new intLocalityChanged (takeOwnership new (dropOldOwner new s)) k
    · exact .inl (by simpa using hk)
    · exact .inr (by simpa [setBits, intLocalityChanged] using hk)

/-- A hand-over that is no self-abort moves no locality (spec/44_abort.md R231). -/
theorem prepAbort_changedOnly {a : Option Locality} {n : Locality} (s : State) (ha : a ≠ some n) :
    LocalityChangedOnly s (prepAbort a n s) := by
  cases hexec : s.anyExecution with
  | true =>
    rw [prepAbort_deferred hexec]
    exact ⟨by simp, by simp, by simp, by simp⟩
  | false =>
    rw [prepAbort_now_of_ne hexec ha]
    have h := newActiveLocality_changedOnly (some n) s.settled
    exact ⟨h.state, h.sts, h.ints, h.same_owner⟩

/-- Stores to ACCESS before or after leave no sign. -/
theorem LocalityChangedOnly.of_store {s t : State} {l : Locality} {x : BitVec 8}
    (h : LocalityChangedOnly (s.setAccess l x) t) : LocalityChangedOnly s t :=
  ⟨by simpa using h.state, by simpa using h.sts, by simpa using h.ints, by simpa using h.same_owner⟩

theorem LocalityChangedOnly.store {s t : State} (h : LocalityChangedOnly s t) (l : Locality) (x : BitVec 8) :
    LocalityChangedOnly s (t.setAccess l x) :=
  ⟨by simpa using h.state, by simpa using h.sts, by simpa using h.ints, by simpa using h.same_owner⟩

theorem LocalityChangedOnly.of_recordSeize {s t : State} {l : Locality} (h : LocalityChangedOnly (recordSeize l s) t) :
    LocalityChangedOnly s t :=
  ⟨by simpa using h.state, by simpa using h.sts, by simpa using h.ints, by simpa using h.same_owner⟩

theorem AccessOutcome.changedOnly {l : Locality} {b : BitVec 8} {s t : State} (h : AccessOutcome l b s t)
    (hinv : DeviceInv s) : LocalityChangedOnly s t := by
  cases h with
  | stored hx => exact (newActiveLocality_changedOnly _ _).of_store
  | gaveUp hx howner => exact (newActiveLocality_changedOnly _ _).of_store
  | took hx hfree => exact (newActiveLocality_changedOnly _ _).of_store
  | handedOver hx howner hreq =>
    have hne : some l ≠ some _ := fun h => hinv.owner_ne_requester howner hreq (Option.some.inj h)
    exact (prepAbort_changedOnly s hne).store l _
  | seized hx hcan =>
    have hnot : s.activeLocty ≠ some l := hcan.not_owner
    exact (prepAbort_changedOnly _ hnot).of_recordSeize.of_store

/-- A write without acting bits does nothing (spec/41_access.md R141). -/
theorem accessWrite_no_bits {l : Locality} {wv : Word} {s : State} (hinv : DeviceInv s)
    (h : wv.setWidth 8 &&& 0x3A#8 = 0#8) : accessWrite l wv s = s := by
  rw [accessWrite_of_bits h rfl, accessAct, accessStep2_of_no_release rfl, accessStep3_of_no_clear rfl,
    accessStep4_of_no_seize rfl, accessStep5_of_no_request rfl]
  exact hinv.newActiveLocality_self

/-- An ACCESS write is dropped before the register or served by it. -/
theorem exec_wrAccess_cases (n : Width) (loc : BitVec 3) (lane : BitVec 2) (v : Word) (s : State) :
    exec (.wrAccess n loc lane v) s = .next s.quiet ∨
      ∃ l, exec (.wrAccess n loc lane v) s = .next (accessWrite l (laneWrite v n lane) s).quiet := by
  rw [exec_wrAccess]
  obtain hout | ⟨l, rfl⟩ := page_outside_or_pageOf loc
  · exact .inl (by rw [busWrite_outside hout])
  · rw [busWrite_pageOf]
    split
    · exact .inl rfl
    · exact .inr ⟨l, rfl⟩

/-- Settles O28: a served write by its outcome and by what no step of it touches; a dropped one changes nothing. -/
theorem accessWriteFrame : Obligations.AccessWriteFrame := by
  unfold Obligations.AccessWriteFrame
  intro n loc lane v s hinv
  obtain hdropped | ⟨l, hserved⟩ := exec_wrAccess_cases n loc lane v s
  · exact ⟨_, hdropped, by simp, by simp, fun _ => rfl, fun _ => rfl, by simp⟩
  · have hchanged := (accessWrite_outcome l (laneWrite v n lane) s).changedOnly hinv
    have hnone (h : (laneWrite v n lane).setWidth 8 &&& 0x3A#8 = 0#8) :
        (accessWrite l (laneWrite v n lane) s).quiet = s.quiet := by
      rw [accessWrite_no_bits hinv h]
    refine ⟨_, hserved, fun k => ⟨hchanged.state k, hchanged.sts k, by simp, by simp, hchanged.ints k⟩,
      hchanged.same_owner, hnone, fun hlane => hnone ?_, by simp⟩
    rw [laneWrite_low_byte v n hlane, BitVec.zero_and]

end Sys2Proof.Machine
end

section
/-! PROOFS. COMPLETE with a hand-over pending: each field of the next state, operation by operation (spec/44_abort.md
R231, R232, spec/47_backend.md R296). -/

namespace Sys2Proof.Machine

/-! ## The interrupts that reach the line -/

/-- What the interrupt primitive ORs into INT_STATUS of l: the mask where l's enables are set
(spec/60_exceptions.md R310). -/
def State.raised (s : State) (l : Locality) (mask : Word) : Word :=
  if (s.bank l).inte &&& 0x80000000#32 ≠ 0#32 ∧ (s.bank l).inte &&& mask ≠ 0#32 then mask else 0#32

theorem State.raised_congr {s t : State} {l : Locality} (h : (s.bank l).inte = (t.bank l).inte) (mask : Word) :
    s.raised l mask = t.raised l mask := by
  rw [State.raised, State.raised, h]

theorem raiseIrq_eq (l : Locality) (mask : Word) (s : State) :
    (∀ k, ((raiseIrq (some l) mask s).bank k).ints = (s.bank k).ints ||| if k = l then s.raised l mask else 0#32) ∧
      (raiseIrq (some l) mask s).irqLine = (s.irqLine || decide (s.raised l mask ≠ 0#32)) := by
  by_cases h : (s.bank l).inte &&& 0x80000000#32 ≠ 0#32 ∧ (s.bank l).inte &&& mask ≠ 0#32
  · obtain ⟨henabled, hsource⟩ := h
    have hmask : mask ≠ 0#32 := by
      rintro rfl
      exact hsource BitVec.and_zero
    rw [raiseIrq_enabled (anySet_eq_true.2 henabled) (anySet_eq_true.2 hsource), State.raised,
      if_pos ⟨henabled, hsource⟩]
    refine ⟨fun k => ?_, by simp [hmask]⟩
    by_cases hk : k = l
    · subst hk
      simp [setBits]
    · simp [hk]
  · have hdisabled : anySet (s.bank l).inte intEnabled = false ∨ anySet (s.bank l).inte mask = false := by
      simpa only [← anySet_eq_true, intEnabled, not_and_or, Bool.not_eq_true] using h
    rw [raiseIrq_disabled hdisabled, State.raised, if_neg h]
    simp

/-- Two interrupts reach the line when one of them does. -/
theorem line_raised_twice (line : Bool) (a b : Word) :
    (line || decide (a ≠ 0#32) || decide (b ≠ 0#32)) = (line || decide (a ||| b ≠ 0#32)) := by
  rw [Bool.or_assoc, ← Bool.decide_or]
  simp only [ne_eq, BitVec.or_eq_zero_iff, not_and_or]

/-- LOCALITY_CHANGED goes to the new owner, when it is one (spec/41_access.md R148). -/
theorem newActiveLocality_raised (x : Locality) (s : State) :
    (∀ k, ((newActiveLocality (some x) s).bank k).ints = (s.bank k).ints |||
        if k = x then (if s.activeLocty ≠ some x then s.raised x 0x04#32 else 0#32) else 0#32) ∧
      (newActiveLocality (some x) s).irqLine =
        (s.irqLine || decide ((if s.activeLocty ≠ some x then s.raised x 0x04#32 else 0#32) ≠ 0#32)) := by
  by_cases h : s.activeLocty = some x
  · rw [newActiveLocality_same h]
    simp [h]
  · rw [newActiveLocality_change h]
    obtain ⟨hints, hline⟩ := raiseIrq_eq x intLocalityChanged (takeOwnership (some x) (dropOldOwner (some x) s))
    have hraised : (takeOwnership (some x) (dropOldOwner (some x) s)).raised x 0x04#32 = s.raised x 0x04#32 :=
      State.raised_congr (by simp) _
    rw [intLocalityChanged] at *
    rw [hraised] at hints hline
    rw [if_pos h]
    exact ⟨fun k => by simpa using hints k, by simpa using hline⟩

/-- A self-abort raises COMMAND_READY on its locality (spec/44_abort.md R231). -/
theorem selfAbort_raised (x : Locality) (s : State) :
    (∀ k, ((selfAbort x s).bank k).ints = (s.bank k).ints ||| if k = x then s.raised x 0x80#32 else 0#32) ∧
      (selfAbort x s).irqLine = (s.irqLine || decide (s.raised x 0x80#32 ≠ 0#32)) := by
  obtain ⟨hints, hline⟩ := raiseIrq_eq x intCommandReady (stsSet x stsCommandReady (s.setLocState x .ready))
  have hraised : (stsSet x stsCommandReady (s.setLocState x .ready)).raised x 0x80#32 = s.raised x 0x80#32 :=
    State.raised_congr (by simp) _
  rw [intCommandReady] at hints hline
  rw [hraised] at hints hline
  exact ⟨fun k => by simpa [selfAbort, intCommandReady] using hints k,
    by simpa [selfAbort, intCommandReady] using hline⟩

/-! ## The fields after `abort` -/

section Abort
variable {s : State} {x : Locality}

theorem abort_sts (hx : s.nextLocty = some x) (k : Locality) :
    ((abort s).bank k).sts =
      if s.abortingLocty = some x ∧ k = x then stsReplace (s.bank k).sts stsCommandReady else (s.bank k).sts := by
  rw [abort_eq hx]
  simp only [newActiveLocality_bank]
  by_cases hself : s.abortingLocty = some x
  · by_cases hk : k = x
    · subst hk
      simp [hself]
    · simp [hself, hk]
  · simp [hself]

theorem abort_access_exact (hx : s.nextLocty = some x) (k : Locality) :
    ((abort s).bank k).access =
      if k = x then ((s.bank k).access ||| 0x20#8) &&& 0xF5#8
      else if s.activeLocty = some k then
        (if (s.bank x).access &&& 0x08#8 ≠ 0#8 then ((s.bank k).access &&& 0xDF#8) ||| 0x10#8
          else (s.bank k).access &&& 0xDD#8)
      else (s.bank k).access := by
  rw [abort_access hx, newActiveLocality_access, handOver_eq]
  simp [oldOwnerAccess_some, eq_comm (a := x)]

theorem abort_raised (hx : s.nextLocty = some x) :
    (∀ k, ((abort s).bank k).ints = (s.bank k).ints ||| if k = x then
        (if s.abortingLocty = some x then s.raised x 0x80#32 else 0#32) |||
          (if s.activeLocty ≠ some x then s.raised x 0x04#32 else 0#32) else 0#32) ∧
      (abort s).irqLine = (s.irqLine || decide ((if s.abortingLocty = some x then s.raised x 0x80#32 else 0#32) |||
          (if s.activeLocty ≠ some x then s.raised x 0x04#32 else 0#32) ≠ 0#32)) := by
  rw [abort_eq hx]
  by_cases hself : s.abortingLocty = some x
  · obtain ⟨hints, hline⟩ := selfAbort_raised x s.settled
    obtain ⟨hints', hline'⟩ := newActiveLocality_raised x (selfAbort x s.settled)
    have hraised : (selfAbort x s.settled).raised x 0x04#32 = s.raised x 0x04#32 := State.raised_congr (by simp) _
    have hsettled (m : Word) : s.settled.raised x m = s.raised x m := rfl
    simp only [if_pos hself, hints', hline', hints, hline, hraised, hsettled, selfAbort_keeps, State.settled_frame,
      State.bank_settled]
    refine ⟨fun k => ?_, line_raised_twice _ _ _⟩
    split <;> simp [BitVec.or_assoc]
  · obtain ⟨hints, hline⟩ := newActiveLocality_raised x s.settled
    simp only [if_neg hself, BitVec.zero_or]
    exact ⟨hints, hline⟩

end Abort

/-! ## The response before the hand-over -/

theorem exec_complete {resp : List Byte} {selftest : Bool} {ret : Int} {est : Bool} {s : State}
    (hout : s.beOutstanding = true) (hlen : resp.length ≤ s.cmd.outCap.val) :
    exec (.complete resp selftest ret est) s = .next (completeCommand resp selftest est s).quiet := by
  change execComplete resp selftest ret est s = _
  rw [execComplete, if_pos hout, if_pos hlen]

@[simp] theorem responded_frame (resp : List Byte) (selftest est : Bool) (s : State) :
    (s.responded resp selftest est).activeLocty = s.activeLocty ∧
    (s.responded resp selftest est).nextLocty = s.nextLocty ∧
    (s.responded resp selftest est).abortingLocty = s.abortingLocty ∧
    (s.responded resp selftest est).buffer = Memory.writeBytes s.buffer 0 resp ∧
    (s.responded resp selftest est).beEstablished = est ∧ (s.responded resp selftest est).beOutstanding = false ∧
    (s.responded resp selftest est).irqLine = s.irqLine := by
  simp [State.responded]

@[simp] theorem responded_bank (resp : List Byte) (selftest est : Bool) (s : State) (k : Locality) :
    ((s.responded resp selftest est).bank k).access = (s.bank k).access ∧
    ((s.responded resp selftest est).bank k).inte = (s.bank k).inte ∧
    ((s.responded resp selftest est).bank k).ints = (s.bank k).ints := by
  simp [State.responded]

theorem responded_sts (resp : List Byte) (selftest est : Bool) (s : State) (k : Locality) :
    ((s.responded resp selftest est).bank k).sts =
      if k = s.cmd.locty then (((s.bank k).sts ||| if selftest then 0x04#32 else 0#32) &&& 0x0C000004#32) ||| 0x90#32
      else (s.bank k).sts ||| if selftest then 0x04#32 else 0#32 := by
  have hmarked : (if selftest then setBits (s.bank k).sts stsSelftestDone else (s.bank k).sts) =
      (s.bank k).sts ||| if selftest then 0x04#32 else 0#32 := by
    cases selftest <;> simp [setBits, stsSelftestDone]
  by_cases hk : k = s.cmd.locty
  · subst hk
    simp [State.responded, hmarked, stsReplace, stsPersist, stsValid, stsDataAvailable]
  · simp [State.responded, hmarked, hk]

/-- A status-set forgets the flags of one before it (spec/10_state.md R44). -/
theorem stsReplace_of_flags (sts : Word) : stsReplace ((sts &&& 0x0C000004#32) ||| 0x90#32) stsCommandReady =
    (sts &&& 0x0C000004#32) ||| 0x40#32 := by
  have hflags := setBits_and (sts &&& 0x0C000004#32) 0x90#32 stsPersist
  rw [setBits, BitVec.and_assoc, show (0x90#32 &&& stsPersist : Word) = 0#32 from rfl, BitVec.or_zero] at hflags
  rw [stsReplace, hflags]
  rfl

/-! ## The completion -/

/-- Settles O51: the response, then `abort`, then the interrupt on the submitter, field by field. -/
theorem completionRunsPendingHandOver : Obligations.CompletionRunsPendingHandOver := by
  unfold Obligations.CompletionRunsPendingHandOver
  intro resp selftest ret est s x hinv hout hlen hx c self done raised onSelf onOwner onSubmitter
  have hx' : (s.responded resp selftest est).nextLocty = some x := by simp [hx]
  have heq : completeCommand resp selftest est s =
      raiseIrq (some c) 0x03#32 (abort (s.responded resp selftest est)) := by
    rw [completeCommand_eq, hx']
    rfl
  have hself : self = true ↔ s.abortingLocty = some x := decide_eq_true_iff
  have honSelf : (if s.abortingLocty = some x then s.raised x 0x80#32 else 0#32) = onSelf := if_congr hself.symm rfl rfl
  have honOwner : (if s.activeLocty ≠ some x then s.raised x 0x04#32 else 0#32) = onOwner := rfl
  have honSubmitter : (abort (s.responded resp selftest est)).raised c 0x03#32 = onSubmitter :=
    State.raised_congr (t := s) (by simp) _
  have hresponded (mask : Word) : (s.responded resp selftest est).raised x mask = s.raised x mask :=
    State.raised_congr (by simp) mask
  obtain ⟨hints, hline⟩ := raiseIrq_eq c 0x03#32 (abort (s.responded resp selftest est))
  obtain ⟨hints', hline'⟩ := abort_raised hx'
  simp only [responded_frame, hresponded, honSelf, honOwner] at hints' hline'
  rw [honSubmitter] at hints hline
  have hbuffer : (completeCommand resp selftest est s).quiet.buffer = Memory.writeBytes s.buffer 0 resp := by
    simp [heq]
  refine ⟨_, exec_complete hout hlen, by simp [heq, hx], by simp [heq], by simp [heq], by simp [heq], by simp [heq],
    by simp [heq], by simp, by simp, fun k hk => ?inside, fun a ha => ?outside, fun k => ?state, fun k => ?sts,
    fun k => ?access, fun k => ?ints, ?line, by simp, by simp⟩
  case inside =>
    have hcap : 0 + resp.length ≤ Config.bufferMax := by
      have := s.cmd.outCap.isLt
      simp only [Config.bufferMax]
      omega
    have hread := Memory.read_writeBytes_inside hinv.buffer_wf hcap hk
    rw [Nat.zero_add] at hread
    rw [hbuffer, hread, List.getD_eq_getElem _ _ hk]
  case outside => rw [hbuffer, Memory.read_writeBytes_other _ (.inr (by omega))]
  case state =>
    have hpending : (s.nextLocty = some k ∧ s.abortingLocty = some k) ↔ (self = true ∧ k = x) := by
      rw [hself, hx, Option.some.injEq]
      exact ⟨fun ⟨hk, ha⟩ => ⟨hk ▸ ha, hk.symm⟩, fun ⟨ha, hk⟩ => ⟨hk.symm, hk ▸ ha⟩⟩
    simp only [State.bank_quiet, completeCommand_state, hpending]
    rfl
  case sts =>
    simp only [State.bank_quiet, heq, raiseIrq_bank, abort_sts hx', responded_sts, responded_frame, hself]
    split
    · split
      · exact stsReplace_of_flags _
      · rfl
    · rfl
  case access =>
    simp only [State.bank_quiet, heq, raiseIrq_bank, abort_access_exact hx', responded_frame, responded_bank]
  case ints =>
    simp only [State.bank_quiet, heq, hints, hints', responded_bank]
  case line =>
    simp only [State.quiet_frame, heq, hline, hline']
    exact line_raised_twice _ _ _

end Sys2Proof.Machine
end

section
/-! PROOFS. The FIFO port on the bus: its rows by page, the bytes of an access, and the reply, on which no operation of
the FIFO depends (spec/42_fifo.md R170, R178, spec/20_memory.md R63, R64). -/

namespace Sys2Proof.Machine

/-! ## The rows of the port -/

theorem exec_fifoWrite {i : Instr} {n : Width} {loc : BitVec 3} {lane : BitVec 2} {v : Word}
    (hi : i = .wrDataFifo n loc lane v ∨ ∃ d, i = .wrDataXfifo n loc d lane v) (s : State) :
    exec i s = .next (busWrite loc (fun l => fifoWrite l (fifoBytes n lane v)) s) := by
  obtain rfl | ⟨d, rfl⟩ := hi <;> rfl

theorem exec_fifoWrite_pageOf {i : Instr} {n : Width} {l : Locality} {lane : BitVec 2} {v : Word}
    (hi : i = .wrDataFifo n (pageOf l) lane v ∨ ∃ d, i = .wrDataXfifo n (pageOf l) d lane v) {s : State} (hl : l ≠ 4)
    (hs : s.beStartupError = false) : exec i s = .next (fifoWrite l (fifoBytes n lane v) s).quiet := by
  rw [exec_fifoWrite hi, busWrite_pageOf, if_neg (by simp [hl, hs])]

theorem exec_fifoRead {i : Instr} {n : Width} {loc : BitVec 3} {lane : BitVec 2}
    (hi : i = .rdDataFifo n loc lane ∨ ∃ d, i = .rdDataXfifo n loc d lane) (s : State) :
    exec i s = .next (busRead n loc (fifoRead n lane) s) := by
  obtain rfl | ⟨d, rfl⟩ := hi <;> rfl

theorem execAll_cons_next {i : Instr} {s t : State} (h : exec i s = .next t) (is : List Instr) :
    execAll (i :: is) s = execAll is t := by
  rw [execAll, h]

theorem execAll_concat_next {is : List Instr} {s t : State} (h : execAll is s = .next t) (i : Instr) :
    execAll (is ++ [i]) s = exec i t := by
  induction is generalizing s with
  | nil =>
    cases h
    rw [List.nil_append, execAll]
    cases exec i t <;> rfl
  | cons j is ih =>
    rw [execAll] at h
    split at h
    · next u hu => rw [List.cons_append, execAll_cons_next hu, ih h]
    all_goals cases h

/-! ## The bytes of an access -/

theorem fifoWidth_pos (n : Width) (lane : BitVec 2) : 0 < fifoWidth n lane := by
  have := lane.isLt
  have : 0 < widthBytes n := by cases n <;> decide
  rw [fifoWidth]
  omega

/-- The width mask keeps the bytes below the width (spec/40_dispatch.md R125). -/
theorem byteOf_maskedData (v : Word) {n : Width} {k : Nat} (hk : k < widthBytes n) :
    byteOf (maskedData v n) k = (v >>> (8 * k)).setWidth 8 := by
  refine BitVec.eq_of_getLsbD_eq fun i hi => ?_
  have hin : 8 * k + i < 8 * widthBytes n := by omega
  simp [byteOf, maskedData, getLsbD_sizeMask, hin]

/-- What a FIFO write delivers: the value's own bytes, lowest first (spec/42_fifo.md R170). -/
theorem fifoBytes_eq (n : Width) (lane : BitVec 2) (v : Word) :
    fifoBytes n lane v = (List.range (fifoWidth n lane)).map fun k => (v >>> (8 * k)).setWidth 8 := by
  refine List.map_congr_left fun k hk => byteOf_maskedData v ?_
  have := List.mem_range.1 hk
  rw [fifoWidth] at this
  omega

theorem length_fifoBytes (n : Width) (lane : BitVec 2) (v : Word) : (fifoBytes n lane v).length = fifoWidth n lane := by
  simp [fifoBytes]

theorem fifoWidth_one (lane : BitVec 2) : fifoWidth .one lane = 1 := by
  revert lane
  decide

theorem fifoBytes_one (lane : BitVec 2) (v : Word) : fifoBytes .one lane v = [v.setWidth 8] := by
  simp [fifoBytes_eq, fifoWidth_one]

/-- Byte j of an assembled value is byte j of the string (spec/20_memory.md R64). -/
theorem byte_wordOfBytes (bs : List Byte) {j : Nat} (hj : j < 4) :
    ((wordOfBytes bs >>> (8 * j)).setWidth 8 : Byte) = bs.getD j 0x00#8 := by
  induction bs generalizing j with
  | nil => simp [wordOfBytes]
  | cons b bs ih =>
    cases j with
    | zero =>
      refine BitVec.eq_of_getLsbD_eq fun i hi => ?_
      simp [wordOfBytes, hi]
    | succ j =>
      rw [List.getD_cons_succ, ← ih (by omega)]
      refine BitVec.eq_of_getLsbD_eq fun i hi => ?_
      have hword : 8 * (j + 1) + i < 32 := by omega
      have hinside : ¬ 8 * (j + 1) + i < 8 := by omega
      have hnext : 8 * (j + 1) + i - 8 = 8 * j + i := by omega
      have hpast : b.getLsbD (8 * (j + 1) + i) = false := BitVec.getLsbD_of_ge _ _ (by omega)
      simp only [wordOfBytes, BitVec.getLsbD_setWidth, BitVec.getLsbD_ushiftRight, BitVec.getLsbD_or,
        BitVec.getLsbD_shiftLeft, hi, hword, hinside, hnext, hpast, decide_true, decide_false, Bool.not_false,
        Bool.true_and, Bool.and_false, Bool.false_or]

/-! ## The reply -/

/-- The state with another reply (log 7). -/
def State.replying (s : State) (r : Reply) : State := { s with reply := r }

theorem State.quiet_eq_replying (s : State) : s.quiet = s.replying .none := rfl

@[simp] theorem State.bank_replying (s : State) (r : Reply) (k : Locality) : (s.replying r).bank k = s.bank k := rfl

@[simp] theorem State.replying_frame (s : State) (r : Reply) :
    (s.replying r).activeLocty = s.activeLocty ∧ (s.replying r).rwOffset = s.rwOffset ∧
    (s.replying r).buffer = s.buffer ∧ (s.replying r).bufferSize = s.bufferSize ∧
    (s.replying r).beOutstanding = s.beOutstanding ∧ (s.replying r).beStartupError = s.beStartupError ∧
    (s.replying r).faults = s.faults ∧ (s.replying r).responseLen = s.responseLen :=
  ⟨rfl, rfl, rfl, rfl, rfl, rfl, rfl, rfl⟩

section Replying
variable (l : Locality) (s : State) (r : Reply)

theorem stsSet_replying (f : Word) : stsSet l f (s.replying r) = (stsSet l f s).replying r := rfl

theorem raiseIrq_replying (m : Word) : raiseIrq (some l) m (s.replying r) = (raiseIrq (some l) m s).replying r := by
  by_cases h : anySet (s.bank l).inte intEnabled = true ∧ anySet (s.bank l).inte m = true
  · obtain ⟨henabled, hsource⟩ := h
    rw [raiseIrq_enabled henabled hsource, raiseIrq_enabled (s := s.replying r) henabled hsource]
    rfl
  · rw [not_and_or, Bool.not_eq_true, Bool.not_eq_true] at h
    rw [raiseIrq_disabled h, raiseIrq_disabled (s := s.replying r) h]

theorem storeByte_replying (b : Byte) : storeByte b (s.replying r) = (storeByte b s).replying r := by
  simp only [storeByte, State.replying_frame]
  split_ifs <;> rfl

theorem checkComplete_replying : checkComplete l (s.replying r) = (checkComplete l s).replying r := by
  simp only [checkComplete, State.bank_replying, State.replying_frame, stsSet_replying, raiseIrq_replying,
    ← apply_ite (State.replying · r)]

theorem appendBytes_replying (bs : List Byte) :
    appendBytes l bs (s.replying r) = (appendBytes l bs s).replying r := by
  induction bs generalizing s with
  | nil => rfl
  | cons b bs ih =>
    simp only [appendBytes, State.bank_replying, State.replying_frame, storeByte_replying, checkComplete_replying, ih,
      stsSet_replying]
    split_ifs <;> rfl

theorem fifoWrite_replying (bs : List Byte) : fifoWrite l bs (s.replying r) = (fifoWrite l bs s).replying r := by
  have henter : enterReception l (s.replying r) = (enterReception l s).replying r := by
    simp only [enterReception, State.bank_replying]
    split <;> rfl
  simp only [fifoWrite, State.bank_replying, State.replying_frame, henter, appendBytes_replying]
  split_ifs
  · split <;> rfl
  · rfl

theorem readByte_replying : readByte l (s.replying r) = ((readByte l s).1, (readByte l s).2.replying r) := by
  have htake : takeByte (s.replying r) = ((takeByte s).1, (takeByte s).2.replying r) := by
    simp only [takeByte, State.replying_frame]
    split_ifs <;> rfl
  have hend (t : State) : endResponse l (t.replying r) = (endResponse l t).replying r := by
    simp only [endResponse, State.replying_frame, stsSet_replying, raiseIrq_replying]
    split_ifs <;> rfl
  simp only [readByte, State.bank_replying, htake, hend]
  split_ifs <;> rfl

end Replying

end Sys2Proof.Machine
end

section
/-! PROOFS. FIFO writes: what storing bytes at the cursor does, and the three ways in which the bytes of an access end
at a locality that takes them: all stored, the packet complete, the buffer full (spec/42_fifo.md R172 to R177). -/

namespace Sys2Proof.Machine

/-! ## The status flags of the FIFO -/

/-- EXPECT and VALID stand together: the locality takes bytes and no interrupt is due (spec/42_fifo.md R176). -/
def Expecting (sts : Word) : Prop := anySet sts stsExpect = true ∧ anySet sts stsValid = true

theorem expecting_iff (sts : Word) : Expecting sts ↔ sts &&& 0x88#32 = 0x88#32 := by
  have hexpect : sts &&& 0x08#32 = if sts.getLsbD 3 then 0x08#32 else 0#32 := BitVec.and_twoPow sts 3
  have hvalid : sts &&& 0x80#32 = if sts.getLsbD 7 then 0x80#32 else 0#32 := BitVec.and_twoPow sts 7
  have hboth : sts &&& 0x88#32 = (sts &&& 0x08#32) ||| (sts &&& 0x80#32) := by
    rw [← BitVec.and_or_distrib_left]
    rfl
  rw [Expecting, anySet_eq_true, anySet_eq_true, stsExpect, stsValid, hboth, hexpect, hvalid]
  cases sts.getLsbD 3 <;> cases sts.getLsbD 7 <;> decide

/-- A status-set decides every bit that it does not keep (spec/10_state.md R44). -/
theorem stsReplace_and (sts f : Word) {c : Word} (hc : stsPersist &&& c = 0#32) : stsReplace sts f &&& c = f &&& c := by
  rw [show stsReplace sts f = setBits (sts &&& stsPersist) f from rfl, setBits_and, BitVec.and_assoc, hc,
    BitVec.and_zero, BitVec.zero_or]

/-- A status-set forgets the flags that stood before (spec/10_state.md R44). -/
theorem stsReplace_stsReplace (sts : Word) {f : Word} (hf : f &&& stsPersist = 0#32) (g : Word) :
    stsReplace (stsReplace sts f) g = stsReplace sts g := by
  have hkept : stsReplace sts f &&& stsPersist = sts &&& stsPersist := by
    rw [show stsReplace sts f = setBits (sts &&& stsPersist) f from rfl, setBits_and, hf, BitVec.or_zero,
      BitVec.and_assoc, BitVec.and_self]
  rw [stsReplace, hkept, stsReplace]

/-- A value that shows the flags f, beside what a status-set keeps, is as the status-set to f leaves it. -/
theorem stsReplace_self {sts f : Word} (h : sts &&& ~~~stsPersist = f) : stsReplace sts f = sts := by
  subst h
  ext i hi
  simp only [stsReplace, BitVec.getElem_or, BitVec.getElem_and, BitVec.getElem_not]
  cases sts[i] <;> cases stsPersist[i] <;> rfl

/-- The STS values that a locality can show while it waits for more bytes: as before in RECEPTION, or set by a
status-set to EXPECT and VALID (spec/42_fifo.md R172, R175). -/
def Bank.Waits (b : Bank) (x : Word) : Prop :=
  (b.state = .reception ∧ x = b.sts) ∨ x = stsReplace b.sts (stsExpect ||| stsValid)

theorem Bank.Waits.stsReplace_eq {b : Bank} {x : Word} (h : b.Waits x) (f : Word) :
    stsReplace x f = stsReplace b.sts f := by
  obtain ⟨-, rfl⟩ | rfl := h
  · rfl
  · exact stsReplace_stsReplace b.sts (by decide) f

theorem Bank.Waits.trans {b c : Bank} {y : Word} (h : b.Waits c.sts) (h' : c.Waits y) : b.Waits y := by
  obtain ⟨-, rfl⟩ | rfl := h'
  · exact h
  · exact .inr (h.stsReplace_eq _)

theorem expecting_stsReplace (sts : Word) : Expecting (stsReplace sts (stsExpect ||| stsValid)) := by
  rw [expecting_iff, stsReplace_and _ _ rfl]
  rfl

theorem Bank.Waits.expecting {b : Bank} {x : Word} (h : b.Waits x) (hb : Expecting b.sts) : Expecting x := by
  obtain ⟨-, rfl⟩ | rfl := h
  · exact hb
  · exact expecting_stsReplace b.sts

/-! ## Bytes at the cursor -/

theorem Memory.writeBytes_append (m : Memory) (a : Nat) (bs cs : List Byte) :
    Memory.writeBytes m a (bs ++ cs) = Memory.writeBytes (Memory.writeBytes m a bs) (a + bs.length) cs := by
  induction bs generalizing m a with
  | nil => rfl
  | cons b bs ih =>
    rw [List.cons_append, Memory.writeBytes, ih, Memory.writeBytes, List.length_cons, Nat.add_right_comm, Nat.add_assoc]

/-- The state with the bytes bs stored at the cursor, a byte stored while a command is outstanding marked as a race
(spec/42_fifo.md R173, R177). -/
def State.stored (s : State) (bs : List Byte) : State :=
  { s with
    buffer := Memory.writeBytes s.buffer s.rwOffset.toNat bs
    rwOffset := s.rwOffset + BitVec.ofNat 16 bs.length
    faults := if s.beOutstanding = true ∧ bs ≠ [] then s.faults.add .bufferRace else s.faults }

@[simp] theorem State.bank_stored (s : State) (bs : List Byte) (k : Locality) : (s.stored bs).bank k = s.bank k := rfl

@[simp] theorem State.stored_frame (s : State) (bs : List Byte) :
    (s.stored bs).activeLocty = s.activeLocty ∧ (s.stored bs).bufferSize = s.bufferSize ∧
    (s.stored bs).beOutstanding = s.beOutstanding ∧ (s.stored bs).irqLine = s.irqLine ∧
    (s.stored bs).buffer = Memory.writeBytes s.buffer s.rwOffset.toNat bs ∧
    (s.stored bs).rwOffset = s.rwOffset + BitVec.ofNat 16 bs.length := ⟨rfl, rfl, rfl, rfl, rfl, rfl⟩

theorem State.stored_nil (s : State) : s.stored [] = s := by
  simp [State.stored, Memory.writeBytes]

theorem State.stored_faults (s : State) (bs : List Byte) :
    (s.stored bs).faults = if s.beOutstanding = true ∧ bs ≠ [] then s.faults.add .bufferRace else s.faults := rfl

theorem storeByte_eq_stored (b : Byte) (s : State) : storeByte b s = s.stored [b] := by
  cases hout : s.beOutstanding <;> simp [storeByte, State.stored, recordFault, Memory.writeBytes, hout]

/-- The capacity past the cursor (spec/42_fifo.md R173). -/
def State.room (s : State) : Nat := s.bufferSize.val - s.rwOffset.toNat

/-- Bytes that find room do not run past the cursor's 16 bits (log 18). -/
theorem State.toNat_cursor_stored (s : State) {bs : List Byte} (h : bs.length ≤ s.room) :
    (s.stored bs).rwOffset.toNat = s.rwOffset.toNat + bs.length := by
  have hsize := s.bufferSize.isLt
  have hcursor := s.rwOffset.isLt
  rw [State.room] at h
  simp only [State.stored_frame, BitVec.toNat_add, BitVec.toNat_ofNat]
  omega

theorem State.room_stored (s : State) {bs : List Byte} (h : bs.length ≤ s.room) :
    (s.stored bs).room + bs.length = s.room := by
  have hcursor := s.toNat_cursor_stored h
  rw [State.room] at h
  rw [State.room, State.room, hcursor]
  simp only [State.stored_frame]
  omega

theorem State.stored_stored (s : State) {bs : List Byte} (cs : List Byte) (h : bs.length ≤ s.room) :
    (s.stored bs).stored cs = s.stored (bs ++ cs) := by
  have hbuffer : Memory.writeBytes (s.stored bs).buffer (s.stored bs).rwOffset.toNat cs =
      Memory.writeBytes s.buffer s.rwOffset.toNat (bs ++ cs) := by
    rw [s.toNat_cursor_stored h, Memory.writeBytes_append, State.stored]
  have hcursor : (s.stored bs).rwOffset + BitVec.ofNat 16 cs.length =
      s.rwOffset + BitVec.ofNat 16 (bs ++ cs).length := by
    rw [List.length_append, BitVec.ofNat_add, ← BitVec.add_assoc, State.stored]
  have hfaults : (if (s.stored bs).beOutstanding = true ∧ cs ≠ [] then (s.stored bs).faults.add .bufferRace
      else (s.stored bs).faults) =
        if s.beOutstanding = true ∧ bs ++ cs ≠ [] then s.faults.add .bufferRace else s.faults := by
    cases hout : s.beOutstanding <;> cases bs <;> cases cs <;> simp [State.stored_faults, FaultSet.add, hout]
  rw [State.stored, hbuffer, hcursor, hfaults]
  rfl

/-! ## How an access ends -/

/-- With the bytes bs at the cursor the packet is complete: the size field is in and the cursor has reached it
(spec/42_fifo.md R175). -/
def State.Completes (s : State) (bs : List Byte) : Prop :=
  5 < s.rwOffset.toNat + bs.length ∧
    (Memory.be32 (Memory.writeBytes s.buffer s.rwOffset.toNat bs)).toNat ≤ s.rwOffset.toNat + bs.length

/-- The state with locality l in RECEPTION, its STS x. -/
def State.receiving (s : State) (l : Locality) (x : Word) : State := (s.setLocState l .reception).setStsStore l x

/-- How the bytes of an access end at a locality that takes them (spec/42_fifo.md R173 to R175). -/
inductive Received (l : Locality) (bs : List Byte) (s : State) : State → Prop where
  /-- Every byte is stored and the packet waits for more. -/
  | more {x : Word} (hx : (s.bank l).Waits x) (hroom : bs.length ≤ s.room) (hopen : bs ≠ [] → ¬ s.Completes bs) :
      Received l bs s ((s.receiving l x).stored bs)
  /-- Byte j completes the packet, the later ones are dropped. -/
  | complete {j : Nat} (hj : 1 ≤ j) (hlen : j ≤ bs.length) (hroom : j ≤ s.room) (hdone : s.Completes (bs.take j)) :
      Received l bs s ((s.receiving l (stsReplace (s.bank l).sts stsValid)).stored (bs.take j))
  /-- The byte past the room, and every later one, is dropped. -/
  | overflow (hroom : s.room < bs.length) :
      Received l bs s ((s.receiving l (stsReplace (s.bank l).sts stsValid)).stored (bs.take s.room))

@[simp] theorem State.receiving_frame (s : State) (l : Locality) (x : Word) :
    (s.receiving l x).activeLocty = s.activeLocty ∧ (s.receiving l x).rwOffset = s.rwOffset ∧
    (s.receiving l x).buffer = s.buffer ∧ (s.receiving l x).bufferSize = s.bufferSize ∧
    (s.receiving l x).beOutstanding = s.beOutstanding ∧ (s.receiving l x).faults = s.faults ∧
    (s.receiving l x).irqLine = s.irqLine ∧ (s.receiving l x).room = s.room :=
  ⟨rfl, rfl, rfl, rfl, rfl, rfl, rfl, rfl⟩

@[simp] theorem State.bank_receiving (s : State) (l : Locality) (x : Word) (k : Locality) :
    (s.receiving l x).bank k = if k = l then { s.bank l with state := .reception, sts := x } else s.bank k := by
  simp only [State.receiving, State.bank_setStsStore, State.bank_setLocState]
  split <;> rfl

theorem State.receiving_self {s : State} {l : Locality} (h : (s.bank l).state = .reception) :
    s.receiving l (s.bank l).sts = s := by
  refine State.ext_banks (fun k => ?_) rfl
  rw [State.bank_receiving]
  split
  · next hk => rw [hk, ← h]
  · rfl

/-- The last status of a locality in RECEPTION stands. -/
theorem State.receiving_stored_receiving (s : State) (l : Locality) (x y : Word) (bs : List Byte) :
    ((s.stored bs).receiving l x).receiving l y = (s.receiving l y).stored bs := by
  refine State.ext_banks (fun k => ?_) rfl
  simp only [State.bank_receiving, State.bank_stored]
  split <;> rfl

/-- Bytes that a locality has taken without completing the packet, then the bytes that follow. -/
theorem Received.after {l : Locality} {s t : State} {bs cs : List Byte} {x : Word} (hx : (s.bank l).Waits x)
    (hroom : bs.length ≤ s.room) (hopen : bs ≠ [] → ¬ s.Completes bs)
    (h : Received l cs ((s.stored bs).receiving l x) t) : Received l (bs ++ cs) s t := by
  have hcursor : ((s.stored bs).receiving l x).rwOffset.toNat = s.rwOffset.toNat + bs.length :=
    s.toNat_cursor_stored hroom
  have hleft : ((s.stored bs).receiving l x).room + bs.length = s.room := s.room_stored hroom
  have hsts : (((s.stored bs).receiving l x).bank l).sts = x := by simp
  have hcompletes (ds : List Byte) : ((s.stored bs).receiving l x).Completes ds ↔ s.Completes (bs ++ ds) := by
    rw [State.Completes, State.Completes, hcursor, Memory.writeBytes_append, List.length_append, Nat.add_assoc]
    rfl
  have hstate (y : Word) (ds : List Byte) :
      (((s.stored bs).receiving l x).receiving l y).stored ds = (s.receiving l y).stored (bs ++ ds) := by
    rw [State.receiving_stored_receiving]
    exact State.stored_stored _ _ hroom
  have htake (j : Nat) : bs ++ cs.take j = (bs ++ cs).take (bs.length + j) := (List.take_length_add_append j).symm
  cases h with
  | more hy hfits hwaits =>
    rw [hstate]
    refine .more (.trans (by rwa [hsts]) hy) (by rw [List.length_append]; omega) fun _ => ?_
    obtain rfl | hcs := eq_or_ne cs []
    · rw [List.append_nil] at *
      exact hopen ‹_›
    · rw [← hcompletes]
      exact hwaits hcs
  | complete hj hlen hfits hdone =>
    rw [hcompletes, htake] at hdone
    rw [hstate, hsts, hx.stsReplace_eq, htake]
    exact .complete (by omega) (by rw [List.length_append]; omega) (by omega) hdone
  | overflow hover =>
    rw [hstate, hsts, hx.stsReplace_eq, htake, Nat.add_comm bs.length, hleft]
    exact .overflow (by rw [List.length_append]; omega)

/-! ## The bytes one by one -/

/-- Where EXPECT and VALID stand, the completion check raises no interrupt (spec/42_fifo.md R175, R176). -/
theorem checkComplete_expecting {l : Locality} {s : State} (h : Expecting (s.bank l).sts) :
    checkComplete l s = if 5 < s.rwOffset.toNat then
      (if (Memory.be32 s.buffer).toNat ≤ s.rwOffset.toNat then stsSet l stsValid s
        else stsSet l (stsExpect ||| stsValid) s) else s := by
  obtain ⟨hexpect, hvalid⟩ := h
  simp only [checkComplete, hexpect, hvalid, and_true, Bool.not_true, Bool.false_eq_true, if_false, ← Nat.not_le,
    ite_not]

/-- With EXPECT set and room left, a byte is stored and the packet checked (spec/42_fifo.md R173). -/
theorem appendBytes_cons_stored {l : Locality} {s : State} (h : anySet (s.bank l).sts stsExpect = true)
    (hroom : 0 < s.room) (b : Byte) (bs : List Byte) :
    appendBytes l (b :: bs) s = appendBytes l bs (checkComplete l (s.stored [b])) := by
  rw [State.room] at hroom
  rw [appendBytes, if_pos h, if_pos (by omega), storeByte_eq_stored]

/-- With EXPECT set and no room left, the bytes are dropped and VALID stands alone (spec/42_fifo.md R174). -/
theorem appendBytes_cons_full {l : Locality} {s : State} (h : anySet (s.bank l).sts stsExpect = true)
    (hroom : s.room = 0) (b : Byte) (bs : List Byte) : appendBytes l (b :: bs) s = stsSet l stsValid s := by
  rw [State.room] at hroom
  rw [appendBytes, if_pos h, if_neg (by omega)]

theorem stsSet_of_reception {l : Locality} {s : State} (h : (s.bank l).state = .reception) (f : Word) :
    stsSet l f s = s.receiving l (stsReplace (s.bank l).sts f) := by
  refine State.ext_banks (fun k => ?_) rfl
  rw [stsSet, State.bank_setStsStore, State.bank_receiving, ← h]

section Byte
variable {l : Locality} {s : State} (hstate : (s.bank l).state = .reception) (hexp : Expecting (s.bank l).sts)
  (hroom : 1 ≤ s.room) (b : Byte)
include hstate hexp hroom

theorem checkComplete_of_completes (h : s.Completes [b]) :
    checkComplete l (s.stored [b]) = (s.stored [b]).receiving l (stsReplace (s.bank l).sts stsValid) := by
  obtain ⟨hsize, hlen⟩ := h
  have hcursor := s.toNat_cursor_stored (bs := [b]) hroom
  rw [checkComplete_expecting (s := s.stored [b]) hexp, if_pos (by rwa [hcursor]), if_pos (by rwa [hcursor])]
  exact stsSet_of_reception (s := s.stored [b]) hstate stsValid

theorem checkComplete_of_not_completes (h : ¬ s.Completes [b]) :
    ∃ x, (s.bank l).Waits x ∧ checkComplete l (s.stored [b]) = (s.stored [b]).receiving l x := by
  have hcursor := s.toNat_cursor_stored (bs := [b]) hroom
  rw [checkComplete_expecting (s := s.stored [b]) hexp]
  split
  · next hsize =>
    rw [if_neg fun hlen => h ⟨by rwa [hcursor] at hsize, by rwa [hcursor] at hlen⟩]
    exact ⟨_, .inr rfl, stsSet_of_reception (s := s.stored [b]) hstate _⟩
  · exact ⟨_, .inl ⟨hstate, rfl⟩, (State.receiving_self (s := s.stored [b]) hstate).symm⟩

end Byte

/-- A locality in RECEPTION with EXPECT and VALID takes the bytes of an access until the packet is complete or the
buffer full (spec/42_fifo.md R173 to R175). -/
theorem appendBytes_received {l : Locality} {s : State} (hstate : (s.bank l).state = .reception)
    (hexp : Expecting (s.bank l).sts) (bs : List Byte) : Received l bs s (appendBytes l bs s) := by
  induction bs generalizing s with
  | nil =>
    have h := Received.more (l := l) (bs := []) (s := s) (.inl ⟨hstate, rfl⟩) (Nat.zero_le _) (absurd rfl)
    rwa [State.receiving_self hstate, State.stored_nil] at h
  | cons b bs ih =>
    obtain hfull | hroom := Nat.eq_zero_or_pos s.room
    · rw [appendBytes_cons_full hexp.1 hfull, stsSet_of_reception hstate]
      have h := Received.overflow (l := l) (s := s) (bs := b :: bs) (by simp [hfull])
      rwa [hfull, List.take_zero, State.stored_nil] at h
    · rw [appendBytes_cons_stored hexp.1 hroom]
      by_cases hdone : s.Completes [b]
      · rw [checkComplete_of_completes hstate hexp hroom b hdone,
          appendBytes_closed _ (by simp [stsReplace_valid_closed])]
        exact .complete (bs := b :: bs) (j := 1) le_rfl (by simp) hroom hdone
      · obtain ⟨x, hx, hcheck⟩ := checkComplete_of_not_completes hstate hexp hroom b hdone
        rw [hcheck]
        exact .after (bs := [b]) hx hroom (fun _ => hdone) (ih (by simp) (by simpa using hx.expecting hexp))

/-! ## The locality that takes bytes -/

theorem fifoWrite_of_reception {l : Locality} {s : State} (howner : s.activeLocty = some l)
    (h : (s.bank l).state = .reception) (bs : List Byte) : fifoWrite l bs s = appendBytes l bs s := by
  simp only [fifoWrite, howner, h, if_true, enterReception]

theorem fifoWrite_of_ready {l : Locality} {s : State} (howner : s.activeLocty = some l)
    (h : (s.bank l).state = .ready) (bs : List Byte) : fifoWrite l bs s = appendBytes l bs (enterReception l s) := by
  simp only [fifoWrite, howner, h, if_true]

/-- Locality l owns the interface, in READY or in RECEPTION with EXPECT and VALID (spec/42_fifo.md R171, R172). -/
structure State.Accepts (s : State) (l : Locality) : Prop where
  owner : s.activeLocty = some l
  waits : (s.bank l).state = .ready ∨ ((s.bank l).state = .reception ∧ Expecting (s.bank l).sts)

theorem fifoWrite_received {l : Locality} {s : State} (h : s.Accepts l) (bs : List Byte) :
    Received l bs s (fifoWrite l bs s) := by
  obtain ⟨howner, hready | ⟨hstate, hexp⟩⟩ := h
  · have henter : enterReception l s = s.receiving l (stsReplace (s.bank l).sts (stsExpect ||| stsValid)) := by
      simp only [enterReception, hready]
      rw [stsSet_of_reception (by simp)]
      refine State.ext_banks (fun k => ?_) rfl
      simp only [State.bank_receiving, State.bank_setLocState]
      split <;> simp
    rw [fifoWrite_of_ready howner hready, henter]
    refine .after (bs := []) (.inr rfl) (Nat.zero_le _) (absurd rfl) ?_
    rw [State.stored_nil]
    exact appendBytes_received (by simp) (by simpa using expecting_stsReplace _) bs
  · rw [fifoWrite_of_reception howner hstate]
    exact appendBytes_received hstate hexp bs

/-- Everyone else's bytes are dropped (spec/42_fifo.md R171 to R173). -/
theorem fifoWrite_ignored {l : Locality} {s : State} (h : s.activeLocty ≠ some l ∨ (s.bank l).state = .idle ∨
    (s.bank l).state = .execution ∨ (s.bank l).state = .completion ∨
    ((s.bank l).state = .reception ∧ anySet (s.bank l).sts stsExpect = false)) (bs : List Byte) :
    fifoWrite l bs s = s := by
  unfold fifoWrite
  split
  · next howner =>
    obtain h | h | h | h | ⟨h, hclosed⟩ := h
    · exact absurd howner h
    · simp only [h]
    · simp only [h]
    · simp only [h]
    · simp only [h, enterReception]
      exact appendBytes_closed bs hclosed
  · rfl

/-- The bytes of an access are written one after the other (spec/42_fifo.md R170, R172, R173). -/
theorem fifoWrite_cons (l : Locality) (b : Byte) (bs : List Byte) (s : State) :
    fifoWrite l (b :: bs) s = fifoWrite l bs (fifoWrite l [b] s) := by
  by_cases howner : s.activeLocty = some l
  case neg => simp only [fifoWrite_ignored (.inl howner)]
  cases hstate : (s.bank l).state
  case idle => simp only [fifoWrite_ignored (.inr (.inl hstate))]
  case execution => simp only [fifoWrite_ignored (.inr (.inr (.inl hstate)))]
  case completion => simp only [fifoWrite_ignored (.inr (.inr (.inr (.inl hstate))))]
  case ready =>
    rw [fifoWrite_of_ready howner hstate, fifoWrite_of_ready howner hstate, appendBytes_cons,
      fifoWrite_of_reception (by simpa using howner) (by simp [enterReception_state, hstate])]
  case reception =>
    rw [fifoWrite_of_reception howner hstate, fifoWrite_of_reception howner hstate, appendBytes_cons,
      fifoWrite_of_reception (by simpa using howner) (by simpa using hstate)]

end Sys2Proof.Machine
end

section
/-! PROOFS. The obligations about FIFO writes, each from the way its bytes end (spec/42_fifo.md R170 to R177, R183). -/

namespace Sys2Proof.Machine

/-! ## The writes that change nothing -/

/-- Settles O29: the port drops every byte, and so does the dispatcher where the port is not reached. -/
theorem fifoWriteIgnored : Obligations.FifoWriteIgnored := by
  unfold Obligations.FifoWriteIgnored
  intro i n l lane v s hi hquiet
  have hdropped : fifoWrite l (fifoBytes n lane v) s = s := by
    refine fifoWrite_ignored ?_ _
    simpa only [anySet_eq_false, stsExpect] using hquiet
  rw [exec_fifoWrite hi, busWrite_pageOf, hdropped, ite_self, State.quiet]

/-! ## Byte writes -/

theorem busWrite_fifo_cons (loc : BitVec 3) (b : Byte) (bs : List Byte) (s : State) :
    busWrite loc (fun l => fifoWrite l bs) (busWrite loc (fun l => fifoWrite l [b]) s) =
      busWrite loc (fun l => fifoWrite l (b :: bs)) s := by
  obtain hloc | ⟨l, rfl⟩ := page_outside_or_pageOf loc
  · simp only [busWrite_outside hloc]
    rfl
  · simp only [busWrite_pageOf]
    by_cases hdropped : l = 4 ∨ s.beStartupError = true
    · simp only [hdropped, if_true, State.quiet_frame]
      rfl
    · simp only [hdropped, if_false, State.quiet_frame, fifoWrite_keeps]
      rw [fifoWrite_cons l b bs s, State.quiet_eq_replying (fifoWrite l [b] s), fifoWrite_replying]
      rfl

/-- 1-byte writes one after the other are one write of their bytes. -/
theorem execAll_byteWrites (loc : BitVec 3) {vs : List Word} (hvs : vs ≠ []) (s : State) :
    execAll (vs.map fun v => .wrDataFifo .one loc 0#2 v) s =
      .next (busWrite loc (fun l => fifoWrite l (vs.map (BitVec.setWidth 8))) s) := by
  have hbyte (v : Word) (s : State) : exec (.wrDataFifo .one loc 0#2 v) s =
      .next (busWrite loc (fun l => fifoWrite l [v.setWidth 8]) s) := by
    rw [exec_fifoWrite (.inl rfl)]
    simp only [fifoBytes_one]
  induction vs generalizing s with
  | nil => exact absurd rfl hvs
  | cons v vs ih =>
    rw [List.map_cons, execAll_cons_next (hbyte v s)]
    obtain rfl | hvs := eq_or_ne vs []
    · rfl
    · rw [ih hvs, busWrite_fifo_cons, List.map_cons]

/-- EXPECT and VALID and otherwise only what a status-set keeps. -/
theorem stsReplace_of_waiting {sts : Word} (h : sts &&& 0xFFFFFFFB#32 &&& 0xF3FFFFFF#32 = 0x88#32) :
    stsReplace sts (stsExpect ||| stsValid) = sts := by
  rw [BitVec.and_assoc] at h
  exact stsReplace_self h

/-- Where the STS before is as a status-set leaves it, waiting for more bytes has one value. -/
theorem Bank.Waits.eq_stsReplace {b : Bank} {x : Word} (h : b.Waits x)
    (hb : b.state = .ready ∨ stsReplace b.sts (stsExpect ||| stsValid) = b.sts) :
    x = stsReplace b.sts (stsExpect ||| stsValid) := by
  obtain ⟨hstate, rfl⟩ | rfl := h
  · obtain hready | hsts := hb
    · cases hstate.symm.trans hready
    · exact hsts.symm
  · rfl

/-- A byte that finds room is stored, and completes the packet or waits for more (spec/42_fifo.md R173, R175). -/
theorem fifoWrite_byte {l : Locality} {s : State} (h : s.Accepts l) (hroom : 1 ≤ s.room) (b : Byte) :
    (s.Completes [b] ∧ fifoWrite l [b] s = (s.receiving l (stsReplace (s.bank l).sts stsValid)).stored [b]) ∨
      (¬ s.Completes [b] ∧ ∃ x, (s.bank l).Waits x ∧ fifoWrite l [b] s = (s.receiving l x).stored [b]) := by
  have hend := fifoWrite_received h [b]
  generalize fifoWrite l [b] s = t at hend
  cases hend with
  | more hx _ hopen => exact .inr ⟨hopen (List.cons_ne_nil b []), _, hx, rfl⟩
  | @complete j hj hlen _ hdone =>
    obtain rfl : j = 1 := le_antisymm hlen hj
    exact .inl ⟨hdone, rfl⟩
  | overflow hover => exact absurd hover (Nat.not_lt.2 hroom)

/-- Settles O30: an access is its bytes, and a byte either waits for more or completes the packet. -/
theorem fifoWriteStoresItsBytes : Obligations.FifoWriteStoresItsBytes := by
  unfold Obligations.FifoWriteStoresItsBytes
  refine ⟨fun i n loc lane v s hi => ?split, fun i l lane v s hi hl hs howner hroom hwaits => ?byte⟩
  case split =>
    rw [exec_fifoWrite hi, fifoBytes_eq]
    change _ = execAll ((List.range (fifoWidth n lane)).map _) s
    have hany : (List.range (fifoWidth n lane)).map (fun k => v >>> (8 * k)) ≠ [] := by
      simpa using (fifoWidth_pos n lane).ne'
    have h := execAll_byteWrites loc hany s
    rw [List.map_map, List.map_map] at h
    exact h.symm
  case byte =>
    intro m r
    have haccepts : s.Accepts l := by
      refine ⟨howner, hwaits.imp_right fun ⟨hstate, hsts⟩ => ⟨hstate, ?_⟩⟩
      rw [← stsReplace_of_waiting hsts]
      exact expecting_stsReplace _
    have hsts {x : Word} (hx : (s.bank l).Waits x) : x = stsReplace (s.bank l).sts (stsExpect ||| stsValid) :=
      hx.eq_stsReplace (hwaits.imp_right fun ⟨_, hsts⟩ => stsReplace_of_waiting hsts)
    have hdone : s.Completes [v.setWidth 8] ↔ 5 < r ∧ (Memory.be32 m).toNat ≤ r := Iff.rfl
    have hfaults : (s.stored [v.setWidth 8]).faults =
        if s.beOutstanding = true then { s.faults with bufferRace := true } else s.faults := by
      simp [State.stored_faults, FaultSet.add]
    rw [exec_fifoWrite_pageOf hi hl hs, fifoBytes_one, ← hfaults]
    obtain ⟨hcomplete, heq⟩ | ⟨hopen, x, hx, heq⟩ := fifoWrite_byte haccepts (Nat.sub_pos_of_lt hroom) (v.setWidth 8)
    · rw [heq, if_pos (hdone.1 hcomplete)]
      rfl
    · rw [heq, hsts hx, if_neg (hdone.not.1 hopen)]
      rfl

/-! ## Overflow -/

/-- Settles O31: with the buffer full the first byte already overflows; else only the overflow ends an access that does
not fit and completes no packet. -/
theorem fifoOverflow : Obligations.FifoOverflow := by
  unfold Obligations.FifoOverflow
  intro i n l lane v s hi hl hs howner
  rw [exec_fifoWrite_pageOf hi hl hs]
  refine ⟨fun hstate hexpect hfull => ?full, ?middle⟩
  case full =>
    have hroom : s.room = 0 := Nat.sub_eq_zero_of_le hfull
    obtain ⟨b, bs, hbytes⟩ : ∃ b bs, fifoBytes n lane v = b :: bs := List.exists_cons_of_length_pos <| by
      rw [length_fifoBytes]
      exact fifoWidth_pos n lane
    rw [hbytes, fifoWrite_of_reception howner hstate, appendBytes_cons_full (anySet_eq_true.2 hexpect) hroom]
    rfl
  case middle =>
    intro m stored hwaits hover hopen
    have haccepts : s.Accepts l := ⟨howner, hwaits.imp_right fun ⟨hstate, hsts⟩ => ⟨hstate, (expecting_iff _).2 hsts⟩⟩
    have htake {j : Nat} (hj : j ≤ m) : (fifoBytes n lane v).take j =
        (List.range j).map fun k => (v >>> (8 * k)).setWidth 8 := by
      have hmin : min j (fifoWidth n lane) = j := min_eq_left (hj.trans hover.le)
      rw [fifoBytes_eq, ← List.map_take, List.take_range, hmin]
    have hend := fifoWrite_received haccepts (fifoBytes n lane v)
    generalize fifoWrite l (fifoBytes n lane v) s = t at hend
    cases hend with
    | more _ hroom => exact absurd hover (Nat.not_lt.2 ((length_fifoBytes n lane v).ge.trans hroom))
    | @complete j hj hlen hroom hdone =>
      rw [htake hroom] at hdone
      obtain ⟨hsize, hreached⟩ := hdone
      rw [List.length_map, List.length_range] at hsize hreached
      exact absurd hreached (Nat.not_le.2 (hopen j hj hroom hsize))
    | overflow =>
      rw [show s.room = m from rfl, htake le_rfl]
      have hfaults : ((s.receiving l (stsReplace (s.bank l).sts stsValid)).stored
          ((List.range m).map fun k => (v >>> (8 * k)).setWidth 8)).faults =
          if s.beOutstanding = true ∧ m ≠ 0 then { s.faults with bufferRace := true } else s.faults := by
        simp [State.stored_faults, FaultSet.add]
      have hcursor : ((List.range m).map fun k => ((v >>> (8 * k)).setWidth 8 : Byte)).length = m := by simp
      rw [← hfaults, State.stored, hcursor]
      rfl

/-! ## A whole command -/

theorem toNat_append_byte {n : Nat} (x : BitVec n) (b : Byte) : (x ++ b).toNat = x.toNat * 2 ^ 8 + b.toNat := by
  rw [BitVec.toNat_append, ← Nat.shiftLeft_add_eq_or_of_lt b.isLt, Nat.shiftLeft_eq]

/-- The size field as a number, its first byte the highest (spec/20_memory.md R66). -/
theorem Memory.toNat_be32 (m : Memory) : (Memory.be32 m).toNat = (Memory.read m 2).toNat * 2 ^ 24 +
    (Memory.read m 3).toNat * 2 ^ 16 + (Memory.read m 4).toNat * 2 ^ 8 + (Memory.read m 5).toNat := by
  simp only [Memory.be32, toNat_append_byte]
  omega

/-- The bytes of a string written from address 0 on. -/
theorem Memory.read_writeBytes_zero {m : Memory} {c : List Byte} {k : Nat} (hm : Memory.wf m = true)
    (hc : c.length ≤ Config.bufferMax) (hk : k < c.length) :
    Memory.read (Memory.writeBytes m 0 c) k = c.getD k 0x00#8 := by
  have hread := Memory.read_writeBytes_inside (a := 0) hm (by omega) hk
  rw [Nat.zero_add] at hread
  rw [hread, List.getD_eq_getElem _ _ hk]

theorem Memory.toNat_be32_writeBytes {m : Memory} {c : List Byte} (hm : Memory.wf m = true)
    (hc : c.length ≤ Config.bufferMax) (hfield : 6 ≤ c.length) :
    (Memory.be32 (Memory.writeBytes m 0 c)).toNat = (c.getD 2 0#8).toNat * 2 ^ 24 + (c.getD 3 0#8).toNat * 2 ^ 16 +
      (c.getD 4 0#8).toNat * 2 ^ 8 + (c.getD 5 0#8).toNat := by
  rw [Memory.toNat_be32, Memory.read_writeBytes_zero hm hc (by omega), Memory.read_writeBytes_zero hm hc (by omega),
    Memory.read_writeBytes_zero hm hc (by omega), Memory.read_writeBytes_zero hm hc (by omega)]

theorem sendInstrs_eq (l : Locality) (c : List Byte) :
    sendInstrs l c = (c.map (BitVec.setWidth 32)).map fun v => .wrDataFifo .one (pageOf l) 0#2 v := by
  rw [sendInstrs, List.map_map]
  rfl

/-- SEND is one write of the command's bytes (spec/42_fifo.md R183). -/
theorem execAll_sendInstrs {l : Locality} {c : List Byte} {s : State} (hc : c ≠ []) (hl : l ≠ 4)
    (hs : s.beStartupError = false) : execAll (sendInstrs l c) s = .next (fifoWrite l c s).quiet := by
  have hbytes : (c.map (BitVec.setWidth 32)).map (BitVec.setWidth 8) = c := by
    rw [List.map_map]
    refine (List.map_congr_left fun b _ => ?_).trans (List.map_id c)
    simp
  rw [sendInstrs_eq, execAll_byteWrites _ (by simpa using hc), hbytes, busWrite_pageOf, if_neg (by simp [hl, hs])]

/-- Settles O33: the size field is in the buffer from byte 6 on, so that the last byte alone completes the packet. -/
theorem wholeCommandIsReceived : Obligations.WholeCommandIsReceived := by
  unfold Obligations.WholeCommandIsReceived
  intro l c s hinv hs howner hready hrw hout hmin hmax hsize
  have hcursor : s.rwOffset.toNat = 0 := by simp [hrw]
  have hroom : s.room = s.bufferSize.val := by rw [State.room, hcursor, Nat.sub_zero]
  have hfits : c.length ≤ Config.bufferMax := hmax.trans (Nat.le_of_lt_succ s.bufferSize.isLt)
  have hfield {j : Nat} (hj : 6 ≤ j) (hjc : j ≤ c.length) :
      (Memory.be32 (Memory.writeBytes s.buffer 0 (c.take j))).toNat = c.length := by
    have hlen : (c.take j).length = j := by simpa using hjc
    rw [Memory.toNat_be32_writeBytes hinv.buffer_wf (by omega) (by omega), ← hsize]
    simp only [List.getD_eq_getElem?_getD]
    rw [List.getElem?_take_of_lt (by omega), List.getElem?_take_of_lt (by omega), List.getElem?_take_of_lt (by omega),
      List.getElem?_take_of_lt (by omega)]
  have hcompletes {j : Nat} (hjc : j ≤ c.length) (h : s.Completes (c.take j)) : j = c.length := by
    have hlen : (c.take j).length = j := by simpa using hjc
    obtain ⟨hheader, hreached⟩ := h
    rw [hcursor, hlen, Nat.zero_add] at hheader hreached
    rw [hfield hheader hjc] at hreached
    exact le_antisymm hjc hreached
  have hdone : s.Completes c := by
    have hlast := hfield hmin le_rfl
    rw [List.take_length] at hlast
    rw [State.Completes, hcursor, Nat.zero_add, hlast]
    exact ⟨hmin, le_rfl⟩
  have hne : c ≠ [] := List.ne_nil_of_length_pos (by omega)
  have hend := fifoWrite_received ⟨howner, .inl hready⟩ c
  refine ⟨_, execAll_sendInstrs hne (hinv.ne_four howner) hs, ?_⟩
  generalize fifoWrite l c s = t at hend
  cases hend with
  | more _ _ hopen => exact absurd hdone (hopen hne)
  | overflow hover => omega
  | @complete j _ hlen _ hcomplete =>
    obtain rfl := hcompletes hlen hcomplete
    rw [List.take_length]
    have hbuffer : ((s.receiving l (stsReplace (s.bank l).sts stsValid)).stored c).buffer =
        Memory.writeBytes s.buffer 0 c := by simp [hcursor]
    refine ⟨?cursor, by simp, ?sts, by simp [State.stored_faults, hout], fun k hk => ?inside, fun a ha => ?outside⟩
    case cursor =>
      have hroom : c.length ≤ (s.receiving l (stsReplace (s.bank l).sts stsValid)).room := hmax.trans hroom.ge
      exact (State.toNat_cursor_stored _ hroom).trans (by simp [hcursor])
    case sts =>
      simp only [State.bank_quiet, State.bank_stored, State.bank_receiving, if_true]
      rfl
    case inside =>
      exact (congrArg (Memory.read · k) hbuffer).trans (Memory.read_writeBytes_zero hinv.buffer_wf hfits hk)
    case outside =>
      exact (congrArg (Memory.read · a) hbuffer).trans (Memory.read_writeBytes_other _ (.inr (by omega)))

/-! ## The frame -/

/-- The two states differ in the record of locality l and in the interrupt line at most. -/
structure RecordOnly (l : Locality) (s t : State) : Prop where
  frame : t = { s with loc := t.loc, irqLine := t.irqLine }
  others : ∀ k, k ≠ l → t.bank k = s.bank k

theorem RecordOnly.refl (l : Locality) (s : State) : RecordOnly l s s := ⟨rfl, fun _ _ => rfl⟩

theorem RecordOnly.trans {l : Locality} {s t u : State} (h : RecordOnly l s t) (h' : RecordOnly l t u) :
    RecordOnly l s u where
  frame := by rw [h'.frame, h.frame]
  others k hk := (h'.others k hk).trans (h.others k hk)

theorem RecordOnly.stored {l : Locality} {s t : State} (h : RecordOnly l s t) (bs : List Byte) :
    RecordOnly l (s.stored bs) (t.stored bs) where
  frame := by rw [h.frame]; rfl
  others := h.others

theorem RecordOnly.room {l : Locality} {s t : State} (h : RecordOnly l s t) : t.room = s.room := by
  rw [h.frame]
  rfl

theorem recordOnly_setBank (l : Locality) (s : State) (b : Bank) : RecordOnly l s (s.setBank l b) :=
  ⟨rfl, fun k hk => by simp [hk]⟩

theorem recordOnly_raiseIrq (l : Locality) (m : Word) (s : State) : RecordOnly l s (raiseIrq (some l) m s) := by
  unfold raiseIrq
  dsimp only
  split
  · exact ⟨rfl, (recordOnly_setBank l s _).others⟩
  · exact .refl l s

theorem recordOnly_checkComplete (l : Locality) (s : State) : RecordOnly l s (checkComplete l s) := by
  have hsts (f : Word) : RecordOnly l s (stsSet l f s) := recordOnly_setBank l s _
  have hirq (f m : Word) : RecordOnly l s (raiseIrq (some l) m (stsSet l f s)) :=
    (hsts f).trans (recordOnly_raiseIrq l m _)
  unfold checkComplete
  dsimp only
  split_ifs
  · exact hirq _ _
  · exact hirq _ _
  · exact hsts _
  · exact hsts _
  · exact .refl l s

/-- The first bytes of bs are stored, at most as many as find room; beside them the record of l and the line may change
(spec/42_fifo.md R173). -/
def StoresSome (l : Locality) (bs : List Byte) (s t : State) : Prop :=
  ∃ j ≤ bs.length, j ≤ s.room ∧ RecordOnly l (s.stored (bs.take j)) t

theorem RecordOnly.storesNone {l : Locality} {s t : State} (h : RecordOnly l s t) (bs : List Byte) :
    StoresSome l bs s t :=
  ⟨0, Nat.zero_le _, Nat.zero_le _, by rwa [List.take_zero, State.stored_nil]⟩

theorem appendBytes_storesSome (l : Locality) (bs : List Byte) (s : State) :
    StoresSome l bs s (appendBytes l bs s) := by
  induction bs generalizing s with
  | nil => exact (RecordOnly.refl l s).storesNone []
  | cons b bs ih =>
    cases hexpect : anySet (s.bank l).sts stsExpect
    · rw [appendBytes_closed _ hexpect]
      exact (RecordOnly.refl l s).storesNone _
    obtain hfull | hroom := Nat.eq_zero_or_pos s.room
    · rw [appendBytes_cons_full hexpect hfull]
      exact (recordOnly_setBank l s _).storesNone _
    rw [appendBytes_cons_stored hexpect hroom]
    have hbyte := recordOnly_checkComplete l (s.stored [b])
    have hleft : (checkComplete l (s.stored [b])).room + 1 = s.room := hbyte.room.symm ▸ s.room_stored (bs := [b]) hroom
    obtain ⟨j, hj, hjroom, hrest⟩ := ih (checkComplete l (s.stored [b]))
    have htaken := hbyte.stored (bs.take j)
    rw [s.stored_stored (bs := [b]) _ hroom] at htaken
    exact ⟨j + 1, Nat.succ_le_succ hj, by omega, htaken.trans hrest⟩

theorem fifoWrite_storesSome (l : Locality) (bs : List Byte) (s : State) : StoresSome l bs s (fifoWrite l bs s) := by
  refine fifoWrite_cases (P := StoresSome l bs s) l bs s ((RecordOnly.refl l s).storesNone bs) fun _ => ?_
  have henter : RecordOnly l s (enterReception l s) := by
    unfold enterReception
    split
    · exact (recordOnly_setBank l s _).trans (recordOnly_setBank l _ _)
    · exact .refl l s
  obtain ⟨j, hj, hroom, hrest⟩ := appendBytes_storesSome l bs (enterReception l s)
  exact ⟨j, hj, henter.room ▸ hroom, (henter.stored _).trans hrest⟩

/-- The bytes a write stores, with the cursor past them and a race marked where there are any (spec/42_fifo.md R177). -/
theorem StoresSome.stores {l : Locality} {bs : List Byte} {s t : State} (h : StoresSome l bs s t) :
    ∃ j ≤ bs.length, j ≤ s.room ∧ t.rwOffset.toNat = s.rwOffset.toNat + j ∧
      t.buffer = Memory.writeBytes s.buffer s.rwOffset.toNat (bs.take j) ∧
      t.faults = { s.faults with
        bufferRace := s.faults.bufferRace || (s.beOutstanding && decide (s.rwOffset ≠ t.rwOffset)) } := by
  obtain ⟨j, hj, hroom, hframe, -⟩ := h
  have htaken : (bs.take j).length = j := by simpa using hj
  have hcursor : t.rwOffset.toNat = s.rwOffset.toNat + j := by
    rw [congrArg State.rwOffset hframe]
    exact (s.toNat_cursor_stored (htaken.trans_le hroom)).trans (by rw [htaken])
  have hany : bs.take j ≠ [] ↔ s.rwOffset ≠ t.rwOffset := by
    rw [ne_eq, ne_eq, ← List.length_eq_zero_iff, htaken, ← BitVec.toNat_inj, hcursor]
    omega
  refine ⟨j, hj, hroom, hcursor, congrArg State.buffer hframe, ?_⟩
  rw [congrArg State.faults hframe, State.stored_faults, if_congr (and_congr_right' hany) rfl rfl]
  by_cases hrw : s.rwOffset = t.rwOffset
  · simp [hrw]
  · cases hout : s.beOutstanding <;> simp [hrw, FaultSet.add]

theorem StoresSome.keeps {l : Locality} {bs : List Byte} {s t : State} (h : StoresSome l bs s t) :
    t.activeLocty = s.activeLocty ∧ t.nextLocty = s.nextLocty ∧ t.abortingLocty = s.abortingLocty ∧
      t.bufferSize = s.bufferSize ∧ t.beTpmVersion = s.beTpmVersion ∧ t.cmd = s.cmd ∧ t.beIn = s.beIn ∧
      t.beCancels = s.beCancels ∧ t.beOutstanding = s.beOutstanding ∧ t.beEstablished = s.beEstablished ∧
      t.beStartupError = s.beStartupError ∧ t.params = s.params ∧ t.inputs = s.inputs ∧ t.freeCount = s.freeCount := by
  obtain ⟨_, -, -, hframe, -⟩ := h
  rw [hframe]
  exact ⟨rfl, rfl, rfl, rfl, rfl, rfl, rfl, rfl, rfl, rfl, rfl, rfl, rfl, rfl⟩

/-- The port's write reaches the device with its page's locality or is dropped (spec/40_dispatch.md R121 to R123). -/
theorem exec_fifoWrite_cases {i : Instr} {n : Width} {loc : BitVec 3} {lane : BitVec 2} {v : Word}
    (hi : i = .wrDataFifo n loc lane v ∨ ∃ d, i = .wrDataXfifo n loc d lane v) (s : State) :
    ∃ u l, exec i s = .next u.quiet ∧ StoresSome l (fifoBytes n lane v) s u ∧
      (∀ k, (u.bank k).access = (s.bank k).access ∧ (u.bank k).ifaceId = (s.bank k).ifaceId ∧
        (u.bank k).inte = (s.bank k).inte ∧ (loc ≠ pageOf k → u.bank k = s.bank k)) := by
  have hdropped (l : Locality) : StoresSome l (fifoBytes n lane v) s s := (RecordOnly.refl l s).storesNone _
  rw [exec_fifoWrite hi]
  obtain hloc | ⟨l, rfl⟩ := page_outside_or_pageOf loc
  · exact ⟨s, 0, by rw [busWrite_outside hloc], hdropped 0, fun _ => ⟨rfl, rfl, rfl, fun _ => rfl⟩⟩
  · rw [busWrite_pageOf]
    split
    · exact ⟨s, l, rfl, hdropped l, fun _ => ⟨rfl, rfl, rfl, fun _ => rfl⟩⟩
    · have hstores := fifoWrite_storesSome l (fifoBytes n lane v) s
      refine ⟨_, l, rfl, hstores, fun k => ?_⟩
      obtain ⟨j, -, -, hrecord⟩ := hstores
      obtain ⟨haccess, hiface, hinte⟩ := fifoWrite_bank l (fifoBytes n lane v) s k
      exact ⟨haccess, hiface, hinte, fun hk => hrecord.others k fun h => hk (h ▸ rfl)⟩

/-- In a state of the device, EXPECT and VALID without the other flags are as a status-set leaves them. -/
theorem DeviceInv.stsReplace_of_waiting {s : State} (h : DeviceInv s) {l : Locality}
    (hsts : (s.bank l).sts &&& 0xF8#32 = 0x88#32) :
    stsReplace (s.bank l).sts (stsExpect ||| stsValid) = (s.bank l).sts := by
  have hmask : ~~~stsPersist = (0xFFFFFF23#32 &&& 0xF3FFFFFF#32) ||| (0xF8#32 &&& 0xD8#32) := by decide
  refine stsReplace_self ?_
  rw [hmask, BitVec.and_or_distrib_left, ← BitVec.and_assoc, ← BitVec.and_assoc, h.sts_fixed l, hsts]
  cases s.beTpmVersion <;> decide

/-- What the record of a receiving writer and the line show after the access (spec/42_fifo.md R173, R176). -/
theorem Received.shows {l : Locality} {bs : List Byte} {s t : State} (h : Received l bs s t)
    (hwaits : (s.bank l).state = .ready ∨ stsReplace (s.bank l).sts (stsExpect ||| stsValid) = (s.bank l).sts) :
    (t.bank l).state = .reception ∧ (t.bank l).ints = (s.bank l).ints ∧ t.irqLine = s.irqLine ∧
      ((t.bank l).sts = stsReplace (s.bank l).sts stsValid ∨
        ((t.bank l).sts = stsReplace (s.bank l).sts (stsExpect ||| stsValid) ∧
          t.rwOffset.toNat = s.rwOffset.toNat + bs.length)) := by
  cases h with
  | @more x hx hroom _ =>
    have hcursor := (s.receiving l x).toNat_cursor_stored hroom
    exact ⟨by simp, by simp, by simp, .inr ⟨by simpa using hx.eq_stsReplace hwaits, hcursor⟩⟩
  | complete => exact ⟨by simp, by simp, by simp, .inl (by simp)⟩
  | overflow => exact ⟨by simp, by simp, by simp, .inl (by simp)⟩

/-- Settles O32: the frame is that of the bytes stored and of the writer's record; what a receiving writer shows is how
its bytes end. -/
theorem fifoWriteFrame : Obligations.FifoWriteFrame := by
  unfold Obligations.FifoWriteFrame
  intro i n loc lane v s hi hinv
  obtain ⟨u, l, hexec, hstores, hrecords⟩ := exec_fifoWrite_cases hi s
  obtain ⟨j, hj, hroom, hcursor, hbuffer, hfaults⟩ := hstores.stores
  have hkept := hstores.keeps
  have htaken : ((fifoBytes n lane v).take j).length = j := by simpa using hj
  rw [length_fifoBytes] at hj
  refine ⟨_, hexec, by simp [hcursor], ?length, fun a ha => ?outside, fun k hk => ?inside, hrecords,
    ?_, ?_, ?_, ?_, ?_, ?_, ?_, ?_, ?_, ?_, ?_, ?_, ?_, ?_, ?_, ?_, ?_, fun l hloc hl hs howner hwaits => ?accepts⟩
  case length =>
    simp only [State.quiet_frame, hcursor]
    exact Nat.add_le_add_left hj _
  case outside =>
    simp only [State.quiet_frame, hcursor, hbuffer] at ha ⊢
    exact Memory.read_writeBytes_other _ (by rwa [htaken])
  case inside =>
    simp only [State.quiet_frame, hcursor, hbuffer] at hk ⊢
    have hkj : k < j := by omega
    have hsize := s.bufferSize.isLt
    rw [State.room] at hroom
    rw [Memory.read_writeBytes_inside hinv.buffer_wf (by simp only [htaken, Config.bufferMax]; omega) (by rwa [htaken])]
    simp [fifoBytes_eq]
  case accepts =>
    subst hloc
    have hsts := hwaits.imp_right fun ⟨_, hsts⟩ => hinv.stsReplace_of_waiting hsts
    have haccepts : s.Accepts l := by
      refine ⟨howner, hwaits.imp_right fun ⟨hstate, hsts⟩ => ⟨hstate, ?_⟩⟩
      rw [← hinv.stsReplace_of_waiting hsts]
      exact expecting_stsReplace _
    have hshows := (fifoWrite_received haccepts (fifoBytes n lane v)).shows hsts
    rw [length_fifoBytes] at hshows
    rw [exec_fifoWrite_pageOf hi hl hs] at hexec
    rw [← Host.Outcome.next.inj hexec]
    exact hshows
  all_goals simp only [State.quiet_frame, hkept, hfaults]

end Sys2Proof.Machine
end

section
/-! PROOFS. FIFO reads: the byte that one read of the port takes, the bytes of an access one after the other, and what a
served access returns and leaves (spec/42_fifo.md R178 to R182). -/

namespace Sys2Proof.Machine

/-! ## Reads that are not served -/

/-- A read from a locality that is not active shows all-ones in the bytes it covers (spec/42_fifo.md R180). -/
theorem fifoRead_of_not_owner {l : Locality} {s : State} (h : s.activeLocty ≠ some l) (n : Width) (lane : BitVec 2) :
    fifoRead n lane l s = (laneRead 0xFFFFFFFF#32 n lane, s) := if_neg h

theorem fifoRead_of_owner {l : Locality} {s : State} (h : s.activeLocty = some l) (n : Width) (lane : BitVec 2) :
    fifoRead n lane l s =
      (wordOfBytes (readBytes l (fifoWidth n lane) s).1, (readBytes l (fifoWidth n lane) s).2) := if_pos h

theorem exec_fifoRead_pageOf {i : Instr} {n : Width} {l : Locality} {lane : BitVec 2}
    (hi : i = .rdDataFifo n (pageOf l) lane ∨ ∃ d, i = .rdDataXfifo n (pageOf l) d lane) {s : State}
    (hs : s.beStartupError = false) : exec i s = .next ((fifoRead n lane l s).2.answer n (fifoRead n lane l s).1) := by
  rw [exec_fifoRead hi, busRead_pageOf, if_neg (by simp [hs])]

theorem fifoWidth_lt_five (n : Width) (lane : BitVec 2) : fifoWidth n lane < 5 :=
  Nat.lt_succ_of_le ((min_le_right _ _).trans (Nat.sub_le _ _))

theorem wordOfBytes_noData {k : Nat} (hk : k < 5) :
    wordOfBytes (List.replicate k noDataByte) = BitVec.ofNat 32 (2 ^ (8 * k) - 1) := by
  interval_cases k <;> rfl

/-- Settles O34: without ownership the port is all-ones, without data each byte is 0xFF. -/
theorem fifoReadNotServed : Obligations.FifoReadNotServed := by
  unfold Obligations.FifoReadNotServed
  intro i n l lane s hi hs
  rw [exec_fifoRead_pageOf hi hs]
  refine ⟨fun hother => ?_, fun howner hempty => ?_⟩
  · rw [fifoRead_of_not_owner hother, laneRead, laneShift, sizeMask_eq_ofNat, State.answer]
  · have hdata : ¬ s.HasData l := by
      rw [State.hasData_iff, not_and_or, not_not]
      exact hempty
    rw [fifoRead_of_owner howner, readBytes_of_no_data hdata, wordOfBytes_noData (fifoWidth_lt_five n lane),
      State.answer]
    rfl

/-! ## The byte a served read takes -/

/-- The state with the cursor at r. -/
def State.atCursor (s : State) (r : Nat) : State := { s with rwOffset := BitVec.ofNat 16 r }

/-- The state after the last byte of the response, the cursor at r (spec/42_fifo.md R179). -/
def State.ended (s : State) (l : Locality) (r : Nat) : State :=
  raiseIrq (some l) intStsValid (stsSet l stsValid (s.atCursor r))

/-- The byte that a served access shows at place j: the response's, from a stale cursor one buffer byte, else 0xFF
(spec/42_fifo.md R179, R182). -/
def State.responseByte (s : State) (j : Nat) : Byte :=
  if s.rwOffset.toNat + j < s.responseLen ∨ (j = 0 ∧ s.rwOffset.toNat < s.bufferSize.val) then
    Memory.read s.buffer (s.rwOffset.toNat + j)
  else noDataByte

/-- Where a served access that reaches the end leaves the cursor (spec/42_fifo.md R179). -/
def State.endCursor (s : State) : Nat :=
  if s.rwOffset.toNat < s.responseLen then s.responseLen
  else if s.rwOffset.toNat < s.bufferSize.val then s.rwOffset.toNat + 1 else s.rwOffset.toNat

theorem State.responseLen_le (s : State) : s.responseLen ≤ s.bufferSize.val := Nat.min_le_right _ _

theorem State.atCursor_self (s : State) : s.atCursor s.rwOffset.toNat = s := by
  rw [State.atCursor, BitVec.ofNat_toNat, BitVec.setWidth_eq]

theorem State.toNat_atCursor (s : State) {r : Nat} (h : r ≤ s.bufferSize.val) : (s.atCursor r).rwOffset.toNat = r := by
  have hsize := s.bufferSize.isLt
  exact (BitVec.toNat_ofNat r 16).trans (Nat.mod_eq_of_lt (by omega))

theorem State.HasData.atCursor {s : State} {l : Locality} (h : s.HasData l) (r : Nat) : (s.atCursor r).HasData l := h

theorem stsReplace_valid_no_data (sts : Word) : anySet (stsReplace sts stsValid) stsDataAvailable = false := by
  rw [anySet_eq_false, stsReplace_and _ _ rfl]
  rfl

theorem State.ended_no_data (s : State) (l : Locality) (r : Nat) : ¬ (s.ended l r).HasData l := by
  simp [State.HasData, State.ended, stsReplace_valid_no_data]

theorem readByte_of_data {l : Locality} {s : State} (h : s.HasData l) :
    readByte l s = ((takeByte s).1, endResponse l (takeByte s).2) := if_pos h

theorem takeByte_of_lt {s : State} (h : s.rwOffset.toNat < s.bufferSize.val) :
    takeByte s = (Memory.read s.buffer s.rwOffset.toNat, s.atCursor (s.rwOffset.toNat + 1)) := by
  have hcursor : s.rwOffset + 1#16 = BitVec.ofNat 16 (s.rwOffset.toNat + 1) := by
    rw [BitVec.ofNat_add, BitVec.ofNat_toNat, BitVec.setWidth_eq]
  rw [takeByte, if_pos h, hcursor, State.atCursor]

section Served
variable {l : Locality} {s : State} (h : s.HasData l)
include h

/-- A byte with more of the response behind it: the cursor advances. -/
theorem readByte_more (hmore : s.rwOffset.toNat + 1 < s.responseLen) :
    readByte l s = (s.responseByte 0, s.atCursor (s.rwOffset.toNat + 1)) := by
  have hsize := s.responseLen_le
  rw [readByte_of_data h, takeByte_of_lt (by omega), endResponse, if_neg, State.responseByte, if_pos (.inl (by omega))]
  · rfl
  · rw [State.toNat_atCursor _ (by omega)]
    exact Nat.not_le.2 hmore

/-- The last byte of the response, or the one byte from a stale cursor: the response ends. -/
theorem readByte_last (hlast : s.responseLen ≤ s.rwOffset.toNat + 1) :
    readByte l s = (s.responseByte 0, s.ended l s.endCursor) := by
  have hsize := s.responseLen_le
  rw [readByte_of_data h]
  by_cases hroom : s.rwOffset.toNat < s.bufferSize.val
  · have hend : s.endCursor = s.rwOffset.toNat + 1 := by
      rw [State.endCursor]
      split <;> omega
    have hreached : (s.atCursor (s.rwOffset.toNat + 1)).responseLen ≤
        (s.atCursor (s.rwOffset.toNat + 1)).rwOffset.toNat := by
      rw [State.toNat_atCursor _ hroom]
      exact hlast
    rw [takeByte_of_lt hroom, endResponse, if_pos hreached, State.responseByte, if_pos (.inr ⟨rfl, hroom⟩), hend]
    rfl
  · have hend : s.endCursor = s.rwOffset.toNat := by
      rw [State.endCursor, if_neg (by omega), if_neg hroom]
    rw [takeByte, if_neg hroom, endResponse, if_pos (show s.responseLen ≤ s.rwOffset.toNat by omega),
      State.responseByte, if_neg (by omega), hend, State.ended, State.atCursor_self]

/-- A served access: its bytes, and where it leaves the response (spec/42_fifo.md R178, R179). -/
theorem readBytes_served (k : Nat) : readBytes l k s = ((List.range k).map s.responseByte,
    if k = 0 ∨ s.rwOffset.toNat + k < s.responseLen then s.atCursor (s.rwOffset.toNat + k)
    else s.ended l s.endCursor) := by
  induction k generalizing s with
  | zero =>
    rw [if_pos (.inl rfl), Nat.add_zero, State.atCursor_self]
    rfl
  | succ k ih =>
    rw [List.range_succ_eq_map, List.map_cons, List.map_map]
    by_cases hmore : s.rwOffset.toNat + 1 < s.responseLen
    · have hcursor := s.toNat_atCursor (hmore.le.trans s.responseLen_le)
      have hlen : (s.atCursor (s.rwOffset.toNat + 1)).responseLen = s.responseLen := rfl
      have hbyte : (s.atCursor (s.rwOffset.toNat + 1)).responseByte = s.responseByte ∘ Nat.succ := by
        funext j
        have hsize := s.responseLen_le
        rw [Function.comp_apply, State.responseByte, State.responseByte, hcursor, hlen, Nat.succ_eq_add_one,
          Nat.add_assoc, Nat.add_comm 1 j]
        refine if_congr ?_ rfl rfl
        omega
      have hend : (s.atCursor (s.rwOffset.toNat + 1)).ended l (s.atCursor (s.rwOffset.toNat + 1)).endCursor =
          s.ended l s.endCursor := by
        rw [State.endCursor, State.endCursor, hcursor, hlen, if_pos hmore, if_pos (by omega)]
        rfl
      simp only [readBytes, readByte_more h hmore, ih (h.atCursor _), hbyte, hend, hcursor, hlen]
      refine Prod.ext rfl (if_congr ?_ ?_ rfl)
      · omega
      · rw [Nat.add_assoc, Nat.add_comm 1 k]
        rfl
    · have hpast : List.replicate k noDataByte = (List.range k).map (s.responseByte ∘ Nat.succ) := by
        refine (List.eq_replicate_iff.2 ⟨by simp, fun b hb => ?_⟩).symm
        obtain ⟨j, -, rfl⟩ := List.mem_map.1 hb
        exact if_neg (by omega)
      simp only [readBytes, readByte_last h (by omega), readBytes_of_no_data (s.ended_no_data l _), hpast]
      rw [if_neg (by omega)]

end Served

theorem getD_map_range (f : Nat → Byte) (n j : Nat) :
    ((List.range n).map f).getD j 0x00#8 = if n ≤ j then 0x00#8 else f j := by
  split
  · exact List.getD_eq_default _ _ (by simpa)
  · rw [List.getD_eq_getElem _ _ (by simpa using Nat.not_le.1 ‹_›)]
    simp

/-- Settles O35: the value's bytes are the response's, and the access ends the response or stops inside it. -/
theorem fifoReadServesItsBytes : Obligations.FifoReadServesItsBytes := by
  unfold Obligations.FifoReadServesItsBytes
  intro i n l lane s hi hs howner hstate hsts rw' len n'
  have hbytes := readBytes_served ((State.hasData_iff s l).2 ⟨hstate, hsts⟩) (fifoWidth n lane)
  have hpos := fifoWidth_pos n lane
  rw [exec_fifoRead_pageOf hi hs, fifoRead_of_owner howner, hbytes]
  refine ⟨wordOfBytes ((List.range (fifoWidth n lane)).map s.responseByte), fun j hj => ?value, fun hmore => ?more,
    fun hend => ?last⟩
  case value =>
    rw [byte_wordOfBytes _ hj, getD_map_range]
    rfl
  case more =>
    rw [if_pos (.inr hmore)]
    rfl
  case last =>
    have hdone : ¬ (fifoWidth n lane = 0 ∨ s.rwOffset.toNat + fifoWidth n lane < s.responseLen) :=
      not_or_intro hpos.ne' (Nat.not_lt.2 hend)
    rw [if_neg hdone]
    rfl

end Sys2Proof.Machine
end

section
/-! PROOFS. FIFO reads byte by byte: an access of any width is its 1-byte reads, what a read leaves unchanged, and a
whole response read in order (spec/42_fifo.md R178, R179, R181, spec/20_memory.md R64, R76). -/

namespace Sys2Proof.Machine

/-! ## One byte of the port -/

/-- The byte that one 1-byte read through the page of l returns, and the state it leads to (spec/40_dispatch.md R122,
spec/42_fifo.md R179, R180). -/
def portByte (l : Locality) (s : State) : Byte × State :=
  if s.beStartupError then (0x00#8, s) else if s.activeLocty = some l then readByte l s else (noDataByte, s)

/-- k bytes of the port, one after the other. -/
def portBytes (l : Locality) : Nat → State → List Byte × State
  | 0, s => ([], s)
  | k + 1, s => ((portByte l s).1 :: (portBytes l k (portByte l s).2).1, (portBytes l k (portByte l s).2).2)

theorem portByte_startupError {s : State} (h : s.beStartupError = true) (l : Locality) : portByte l s = (0x00#8, s) :=
  if_pos h

theorem portByte_not_owner {l : Locality} {s : State} (hs : s.beStartupError = false) (h : s.activeLocty ≠ some l) :
    portByte l s = (noDataByte, s) := by
  simp [portByte, hs, h]

theorem portByte_owner {l : Locality} {s : State} (hs : s.beStartupError = false) (h : s.activeLocty = some l) :
    portByte l s = readByte l s := by
  simp [portByte, hs, h]

theorem portByte_replying (l : Locality) (s : State) (r : Reply) :
    portByte l (s.replying r) = ((portByte l s).1, (portByte l s).2.replying r) := by
  simp only [portByte, State.replying_frame, readByte_replying]
  split_ifs <;> rfl

theorem portBytes_of_constant {l : Locality} {s : State} {b : Byte} (h : portByte l s = (b, s)) (k : Nat) :
    portBytes l k s = (List.replicate k b, s) := by
  induction k with
  | zero => rfl
  | succ k ih => rw [portBytes, h, ih, List.replicate_succ]

theorem portBytes_owner {l : Locality} {s : State} (hs : s.beStartupError = false) (h : s.activeLocty = some l)
    (k : Nat) : portBytes l k s = readBytes l k s := by
  induction k generalizing s with
  | zero => rfl
  | succ k ih => rw [portBytes, readBytes, portByte_owner hs h, ih (by simpa using hs) (by simpa using h)]

theorem portBytes_length (l : Locality) (k : Nat) (s : State) : (portBytes l k s).1.length = k := by
  induction k generalizing s with
  | zero => rfl
  | succ k ih => rw [portBytes, List.length_cons, ih]

theorem portBytes_succ (l : Locality) (k : Nat) (s : State) : (portBytes l (k + 1) s).2 =
    (portByte l (portBytes l k s).2).2 := by
  induction k generalizing s with
  | zero => rfl
  | succ k ih => rw [portBytes, ih, portBytes]

theorem portBytes_getD (l : Locality) {k m : Nat} (h : k < m) (s : State) :
    (portBytes l m s).1.getD k 0x00#8 = (portByte l (portBytes l k s).2).1 := by
  induction m generalizing k s with
  | zero => omega
  | succ m ih =>
    cases k with
    | zero => rfl
    | succ k => rw [portBytes, List.getD_cons_succ, ih (by omega), portBytes]

/-! ## An access as its bytes -/

theorem wordOfBytes_zeros (k : Nat) : wordOfBytes (List.replicate k 0x00#8) = 0#32 := by
  induction k with
  | zero => rfl
  | succ k ih =>
    rw [List.replicate_succ, wordOfBytes, ih]
    rfl

/-- All-ones in the bytes an access covers is 0xFF for each of them (spec/42_fifo.md R180). -/
theorem laneRead_ones (n : Width) (lane : BitVec 2) :
    laneRead 0xFFFFFFFF#32 n lane = wordOfBytes (List.replicate (fifoWidth n lane) noDataByte) := by
  cases n <;> revert lane <;> decide

theorem busRead_fifo (n : Width) (l : Locality) (lane : BitVec 2) (s : State) :
    busRead n (pageOf l) (fifoRead n lane) s =
      (portBytes l (fifoWidth n lane) s).2.answer n (wordOfBytes (portBytes l (fifoWidth n lane) s).1) := by
  rw [busRead_pageOf]
  cases hs : s.beStartupError
  case true => rw [portBytes_of_constant (portByte_startupError hs l), wordOfBytes_zeros, if_pos rfl]
  case false =>
    rw [if_neg Bool.false_ne_true]
    by_cases howner : s.activeLocty = some l
    · rw [fifoRead_of_owner howner, portBytes_owner hs howner]
    · rw [fifoRead_of_not_owner howner, portBytes_of_constant (portByte_not_owner hs howner), laneRead_ones]

theorem exec_byteRead (l : Locality) (s : State) : exec (.rdDataFifo .one (pageOf l) 0#2) s =
    .next ((portByte l s).2.answer .one ((portByte l s).1.setWidth 32)) := by
  rw [exec_fifoRead (.inl rfl), busRead_fifo, fifoWidth_one]
  simp [portBytes, wordOfBytes]

/-- 1-byte reads one after the other lead where the port's bytes do. -/
theorem execAll_byteReads (l : Locality) (k : Nat) (s : State) :
    ∃ r, execAll (List.replicate k (.rdDataFifo .one (pageOf l) 0#2)) s = .next ((portBytes l k s).2.replying r) := by
  induction k with
  | zero => exact ⟨s.reply, rfl⟩
  | succ k ih =>
    obtain ⟨r, hr⟩ := ih
    rw [List.replicate_succ', execAll_concat_next hr, exec_byteRead, portByte_replying, portBytes_succ]
    exact ⟨_, rfl⟩

theorem execAll_byteReads_succ (l : Locality) (k : Nat) (s : State) :
    execAll (List.replicate (k + 1) (.rdDataFifo .one (pageOf l) 0#2)) s =
      .next ((portBytes l (k + 1) s).2.answer .one ((portByte l (portBytes l k s).2).1.setWidth 32)) := by
  obtain ⟨r, hr⟩ := execAll_byteReads l k s
  rw [List.replicate_succ', execAll_concat_next hr, exec_byteRead, portByte_replying, portBytes_succ]
  rfl

/-! ## The frame of a read -/

/-- What a read of m bytes by locality l may change (spec/42_fifo.md R178, R179). -/
structure ReadMoves (l : Locality) (m : Nat) (s t : State) : Prop where
  frame : t = { s with loc := t.loc, rwOffset := t.rwOffset, irqLine := t.irqLine }
  cursor : s.rwOffset.toNat ≤ t.rwOffset.toNat ∧ t.rwOffset.toNat ≤ s.rwOffset.toNat + m
  records : ∀ k, (t.bank k).state = (s.bank k).state ∧ (t.bank k).access = (s.bank k).access ∧
    (t.bank k).ifaceId = (s.bank k).ifaceId ∧ (t.bank k).inte = (s.bank k).inte
  others : ∀ k, k ≠ l → t.bank k = s.bank k
  sts : ∀ k, (t.bank k).sts = (s.bank k).sts ∨ (t.bank k).sts = stsReplace (s.bank k).sts stsValid
  ints : ∀ k, (t.bank k).ints = (s.bank k).ints ∨ (t.bank k).ints = setBits (s.bank k).ints intStsValid

theorem ReadMoves.refl (l : Locality) (m : Nat) (s : State) : ReadMoves l m s s where
  frame := rfl
  cursor := ⟨le_rfl, Nat.le_add_right _ _⟩
  records _ := ⟨rfl, rfl, rfl, rfl⟩
  others _ _ := rfl
  sts _ := .inl rfl
  ints _ := .inl rfl

theorem ReadMoves.trans {l : Locality} {m m' : Nat} {s t u : State} (h : ReadMoves l m s t) (h' : ReadMoves l m' t u) :
    ReadMoves l (m + m') s u where
  frame := by rw [h'.frame, h.frame]
  cursor := by
    obtain ⟨hlow, hhigh⟩ := h.cursor
    obtain ⟨hlow', hhigh'⟩ := h'.cursor
    omega
  records k := by
    obtain ⟨hstate, haccess, hiface, hinte⟩ := h.records k
    obtain ⟨hstate', haccess', hiface', hinte'⟩ := h'.records k
    exact ⟨hstate'.trans hstate, haccess'.trans haccess, hiface'.trans hiface, hinte'.trans hinte⟩
  others k hk := (h'.others k hk).trans (h.others k hk)
  sts k := by
    obtain hsame | hended := h'.sts k
    · exact hsame ▸ h.sts k
    · right
      rw [hended]
      obtain hkept | hvalid := h.sts k
      · rw [hkept]
      · rw [hvalid, stsReplace_stsReplace _ (by decide)]
  ints k := by
    obtain hsame | hraised := h'.ints k
    · exact hsame ▸ h.ints k
    · right
      rw [hraised]
      obtain hkept | hset := h.ints k
      · rw [hkept]
      · rw [hset, setBits, setBits, BitVec.or_assoc, BitVec.or_self]

theorem readMoves_takeByte (l : Locality) (s : State) : ReadMoves l 1 s (takeByte s).2 := by
  by_cases hroom : s.rwOffset.toNat < s.bufferSize.val
  · have hcursor := s.toNat_atCursor hroom
    rw [takeByte_of_lt hroom]
    exact { ReadMoves.refl l 1 s with frame := rfl, cursor := ⟨hcursor ▸ Nat.le_succ _, hcursor.le⟩ }
  · rw [takeByte, if_neg hroom]
    exact .refl l 1 s

theorem readMoves_endResponse (l : Locality) (s : State) : ReadMoves l 0 s (endResponse l s) := by
  have hend : ReadMoves l 0 s (raiseIrq (some l) intStsValid (stsSet l stsValid s)) := by
    have hrecord : RecordOnly l s (raiseIrq (some l) intStsValid (stsSet l stsValid s)) :=
      (recordOnly_setBank l s _).trans (recordOnly_raiseIrq l _ _)
    have hcursor : (raiseIrq (some l) intStsValid (stsSet l stsValid s)).rwOffset = s.rwOffset := by simp
    refine ⟨?_, by simp, by simp, hrecord.others, fun k => ?sts, fun k => ?ints⟩
    · rw [hcursor]
      exact hrecord.frame
    case sts =>
      simp only [raiseIrq_bank, stsSet_sts]
      split
      · next hk => exact .inr (by rw [hk])
      · exact .inl rfl
    case ints =>
      obtain hsame | ⟨-, hraised⟩ := raiseIrq_ints (some l) intStsValid (stsSet l stsValid s) k
      · exact .inl (by simpa using hsame)
      · exact .inr (by simpa using hraised)
  unfold endResponse
  split
  · exact hend
  · exact .refl l 0 s

theorem readMoves_readByte (l : Locality) (s : State) : ReadMoves l 1 s (readByte l s).2 := by
  unfold readByte
  split
  · exact (readMoves_takeByte l s).trans (readMoves_endResponse l _)
  · exact .refl l 1 s

theorem readMoves_portBytes (l : Locality) (k : Nat) (s : State) : ReadMoves l k s (portBytes l k s).2 := by
  have hbyte (s : State) : ReadMoves l 1 s (portByte l s).2 := by
    unfold portByte
    split_ifs
    · exact .refl l 1 s
    · exact readMoves_readByte l s
    · exact .refl l 1 s
  induction k generalizing s with
  | zero => exact .refl l 0 s
  | succ k ih =>
    rw [portBytes, Nat.add_comm]
    exact (hbyte s).trans (ih _)

/-! ## The obligations -/

/-- Settles O36: the frame is that of the port's bytes, and so is the value. -/
theorem fifoReadFrame : Obligations.FifoReadFrame := by
  unfold Obligations.FifoReadFrame
  intro i n loc lane s hi _
  rw [exec_fifoRead hi]
  obtain hloc | ⟨l, rfl⟩ := page_outside_or_pageOf loc
  · rw [busRead_outside hloc]
    exact ⟨_, rfl, le_rfl, Nat.le_add_right _ _, fun k => ⟨rfl, rfl, rfl, rfl, fun _ => rfl⟩, fun k => .inl rfl,
      fun k => .inl rfl, rfl, fun hin => absurd hin (Nat.not_lt.2 hloc)⟩
  · have hmoves := readMoves_portBytes l (fifoWidth n lane) s
    obtain ⟨hlow, hhigh⟩ := hmoves.cursor
    rw [busRead_fifo]
    refine ⟨_, rfl, hlow, hhigh, fun k => ?records, hmoves.sts, hmoves.ints, ?frame,
      fun _ => ⟨_, rfl, fun k hk hpast => ?past, fun k hk => ?byte⟩⟩
    case records =>
      obtain ⟨hstate, haccess, hiface, hinte⟩ := hmoves.records k
      exact ⟨hstate, haccess, hiface, hinte, fun hk => hmoves.others k fun h => hk (h ▸ rfl)⟩
    case frame =>
      rw [hmoves.frame]
      rfl
    case past =>
      rw [byte_wordOfBytes _ hk, List.getD_eq_default _ _ (by rwa [portBytes_length])]
    case byte =>
      have hk : k < fifoWidth n lane := hk
      have hword : k < 4 := hk.trans_le (Nat.le_of_lt_succ (fifoWidth_lt_five n lane))
      refine ⟨_, execAll_byteReads_succ l k s, ?_, fun hlast => ?_⟩
      · rw [byte_wordOfBytes _ hword, portBytes_getD l hk]
        rfl
      · rw [hlast]
        rfl

/-- Settles O37: before the end each byte moves the cursor by one, and the last byte ends the response. -/
theorem responseIsReadInOrder : Obligations.ResponseIsReadInOrder := by
  unfold Obligations.ResponseIsReadInOrder
  intro l s _ hs howner hstate hsts hrw len
  have hcursor : s.rwOffset.toNat = 0 := by simp [hrw]
  have hbytes (k : Nat) := (portBytes_owner hs howner k).trans
    (readBytes_served ((State.hasData_iff s l).2 ⟨hstate, hsts⟩) k)
  simp only [hcursor, Nat.zero_add] at hbytes
  refine ⟨fun k hk => ?byte, fun hlen => ?ends⟩
  case byte =>
    have hk : k < s.responseLen := hk
    obtain ⟨r, hr⟩ := execAll_byteReads l k s
    have hmoved : (portBytes l k s).2 = s.atCursor k := by
      rw [hbytes, if_pos]
      omega
    have hbyte : (portByte l (portBytes l k s).2).1 = Memory.read s.buffer k := by
      rw [← portBytes_getD l (Nat.lt_succ_self k), hbytes, getD_map_range, if_neg (by omega), State.responseByte,
        hcursor, Nat.zero_add, if_pos (.inl hk)]
    refine ⟨_, _, hr, ?_, exec_byteRead l _, ?_⟩
    · rw [hmoved]
      exact s.toNat_atCursor (hk.le.trans s.responseLen_le)
    · rw [portByte_replying, hbyte]
      rfl
  case ends =>
    have hlen : 0 < s.responseLen := hlen
    obtain ⟨r, hr⟩ := execAll_byteReads l len s
    have hended : (portBytes l len s).2 = s.ended l s.responseLen := by
      have hend : ¬ (s.responseLen = 0 ∨ s.responseLen < s.responseLen) := by omega
      change (portBytes l s.responseLen s).2 = _
      rw [hbytes, if_neg hend, State.endCursor, hcursor, if_pos hlen]
    rw [hended] at hr
    refine ⟨_, hr, ?_, ?_⟩
    · have hkept : (s.ended l s.responseLen).rwOffset = (s.atCursor s.responseLen).rwOffset := by simp [State.ended]
      simp only [State.replying_frame, hkept]
      exact s.toNat_atCursor s.responseLen_le
    · simp only [State.bank_replying, State.ended, raiseIrq_bank, stsSet_sts, if_true]
      rfl

end Sys2Proof.Machine
end

section
/-! PROOFS. The status register as it reads: the flags and the burst count of each case as a number (spec/43_sts.md R200 to
R202). -/

namespace Sys2Proof.Machine

theorem exec_rdSts_pageOf (n : Width) (l : Locality) (lane : BitVec 2) {s : State} (hs : s.beStartupError = false) :
    exec (.rdSts n (pageOf l) lane) s = .next (s.answer n (laneRead (stsRead n l s) n lane)) := by
  change Host.Outcome.next (regRead n (pageOf l) lane (stsRead n) s) = _
  rw [regRead_pageOf, hs]
  rfl

theorem stsRead_of_not_owner {l : Locality} {s : State} (h : s.activeLocty ≠ some l) (n : Width) :
    stsRead n l s = 0#32 := if_neg h

theorem stsRead_of_data {l : Locality} {s : State} (howner : s.activeLocty = some l)
    (hdata : (s.bank l).sts &&& 0x10#32 ≠ 0#32) (n : Width) :
    stsRead n l s = stsWithBurst (burstLeft s.responseLen s.rwOffset) (s.bank l).sts := by
  have hset : anySet (s.bank l).sts stsDataAvailable = true := anySet_eq_true.2 hdata
  rw [stsRead, if_pos howner, if_pos hset]

theorem stsRead_of_no_data {l : Locality} {s : State} (howner : s.activeLocty = some l)
    (hdata : (s.bank l).sts &&& 0x10#32 = 0#32) (n : Width) :
    stsRead n l s = stsWithBurst (burstFree n s.bufferSize.val s.rwOffset) (s.bank l).sts := by
  have hclear : anySet (s.bank l).sts stsDataAvailable = false := anySet_eq_false.2 hdata
  rw [stsRead, if_pos howner, if_neg (Bool.eq_false_iff.1 hclear)]

/-- The burst count of a response, with the cursor widened as a number (spec/43_sts.md R201). -/
theorem burstLeft_eq (len : Nat) (cursor : BitVec 16) :
    burstLeft len cursor = BitVec.ofNat 32 len - BitVec.ofNat 32 cursor.toNat := by
  rw [burstLeft, BitVec.ofNat_toNat]

/-- The free capacity as a number: nothing wraps while the cursor is inside the buffer (spec/43_sts.md R202). -/
theorem burstFree_eq (n : Width) {size : Nat} (hsize : size < 4097) {cursor : BitVec 16} (hle : cursor.toNat ≤ size) :
    burstFree n size cursor =
      BitVec.ofNat 32 (if n = .one then min (size - cursor.toNat) 0xFF else size - cursor.toNat) := by
  have hfree : BitVec.ofNat 32 size - cursor.setWidth 32 = BitVec.ofNat 32 (size - cursor.toNat) := by
    rw [← BitVec.ofNat_toNat, BitVec.ofNat_sub_ofNat_of_le _ _ (by omega) hle]
  have hover : 0xFF#32 < BitVec.ofNat 32 (size - cursor.toNat) ↔ 0xFF < size - cursor.toNat := by
    rw [BitVec.lt_def, BitVec.toNat_ofNat, BitVec.toNat_ofNat, Nat.mod_eq_of_lt (by omega : size - cursor.toNat < 2 ^ 32)]
  simp only [burstFree, hfree, hover]
  by_cases hone : n = .one
  · by_cases hcut : 0xFF < size - cursor.toNat
    · rw [if_pos ⟨hone, hcut⟩, if_pos hone, min_eq_right hcut.le]
    · rw [if_neg fun h => hcut h.2, if_pos hone, min_eq_left (Nat.not_lt.1 hcut)]
  · rw [if_neg fun h => hone h.1, if_neg hone]

/-- Settles O17: 0 without ownership; with it, the burst count by DATA_AVAILABLE. -/
theorem stsReadView : Obligations.StsReadView := by
  unfold Obligations.StsReadView
  intro n l lane s hs
  rw [exec_rdSts_pageOf n l lane hs]
  refine ⟨fun hother => ?other, fun howner hdata => ?data, fun howner hdata hle => ?free⟩
  case other => rw [stsRead_of_not_owner hother, laneRead, BitVec.zero_ushiftRight, BitVec.zero_and, State.answer]
  case data =>
    rw [stsRead_of_data howner hdata, burstLeft_eq]
    rfl
  case free =>
    rw [stsRead_of_no_data howner hdata, burstFree_eq n s.bufferSize.isLt hle]
    rfl

end Sys2Proof.Machine
end

section
/-! PROOFS. An STS write as its extra actions, bits 24 and 25, followed by its action, by the masked value (spec/43_sts.md
R203 to R205, R209). -/

namespace Sys2Proof.Machine

/-! ## The two parts of a write -/

theorem exec_wrSts_pageOf (n : Width) {l : Locality} (lane : BitVec 2) (v : Word) {s : State} (hl : l ≠ 4)
    (hs : s.beStartupError = false) :
    exec (.wrSts n (pageOf l) lane v) s = .next (stsWrite l (laneWrite v n lane) s).quiet := by
  change Host.Outcome.next (busWrite (pageOf l) (fun l s => stsWrite l (laneWrite v n lane) s) s) = _
  rw [busWrite_pageOf, if_neg (by simp [hl, hs])]

/-- The action of an STS write by its masked value: exactly one action bit, or none (spec/43_sts.md R203, R209). -/
def stsAction (l : Locality) (a : Word) (s : State) : State :=
  if a = stsCommandReady then commandReady l s
  else if a = stsTpmGo then tpmGo l s
  else if a = stsResponseRetry then responseRetry l s
  else s

theorem stsWrite_of_owner {l : Locality} {s : State} (h : s.activeLocty = some l) (wv : Word) :
    stsWrite l wv s = stsAction l (wv &&& 0x62#32) (stsExtraActions l wv s) := if_pos h

theorem stsAction_commandReady (l : Locality) (s : State) : stsAction l 0x40#32 s = commandReady l s := if_pos rfl

theorem stsAction_tpmGo (l : Locality) (s : State) : stsAction l 0x20#32 s = tpmGo l s :=
  (if_neg (by decide)).trans (if_pos rfl)

theorem stsAction_responseRetry (l : Locality) (s : State) : stsAction l 0x02#32 s = responseRetry l s :=
  (if_neg (by decide)).trans ((if_neg (by decide)).trans (if_pos rfl))

theorem stsAction_of_not_mem {a : Word} (h : a ∉ [0x40#32, 0x20#32, 0x02#32]) (l : Locality) (s : State) :
    stsAction l a s = s := by
  simp only [List.mem_cons, List.not_mem_nil, or_false, not_or] at h
  obtain ⟨hready, hgo, hretry⟩ := h
  exact (if_neg hready).trans ((if_neg hgo).trans (if_neg hretry))

/-! ## Bits 24 and 25 (spec/43_sts.md R204, R205) -/

/-- The cancel of a write: counted in EXECUTION alone (spec/43_sts.md R204). -/
theorem cancelAction_of_bit (l : Locality) (wv : Word) (s : State) :
    (if anySet wv stsCommandCancel then cancelAction l s else s) =
      { s with beCancels := if wv &&& 0x01000000#32 ≠ 0#32 ∧ (s.bank l).state = .execution then s.beCancels + 1
          else s.beCancels } := by
  simp only [anySet_eq_true, cancelAction, ← ite_and, stsCommandCancel]
  split <;> rfl

/-- The establishment reset of a write: only locality 3 can use it, since 4 is never served (spec/43_sts.md R205). -/
theorem resetEstAction_of_bit {l : Locality} (hl : l ≠ 4) (wv : Word) (s : State) :
    (if anySet wv stsResetEstablishment then resetEstAction l s else s) =
      { s with beEstablished := if wv &&& 0x02000000#32 ≠ 0#32 ∧ l = 3 then false else s.beEstablished } := by
  simp only [anySet_eq_true, resetEstAction, hl, or_false, ← ite_and, stsResetEstablishment]
  split <;> rfl

/-- The extra actions touch the cancel count and the established flag alone, and only on 2.0. -/
theorem stsExtraActions_eq {l : Locality} (hl : l ≠ 4) (wv : Word) (s : State) :
    stsExtraActions l wv s =
      { s with
        beCancels := if s.beTpmVersion = .v2_0 ∧ wv &&& 0x01000000#32 ≠ 0#32 ∧ (s.bank l).state = .execution then
          s.beCancels + 1 else s.beCancels
        beEstablished := if s.beTpmVersion = .v2_0 ∧ wv &&& 0x02000000#32 ≠ 0#32 ∧ l = 3 then false
          else s.beEstablished } := by
  by_cases hver : s.beTpmVersion = .v2_0
  · simp only [stsExtraActions, cancelAction_of_bit, resetEstAction_of_bit hl, hver, true_and, if_true]
  · simp only [stsExtraActions, hver, false_and, if_false]

theorem stsExtraActions_of_none {l : Locality} {wv : Word} {s : State}
    (h : s.beTpmVersion ≠ .v2_0 ∨ wv &&& 0x03000000#32 = 0#32) : stsExtraActions l wv s = s := by
  obtain hver | hbits := h
  · exact if_neg hver
  · have hclear {m : Word} (hm : 0x03000000#32 &&& m = m) : anySet wv m = false := by
      rw [← anySet_and_of_subset wv hm, hbits, anySet_eq_false, BitVec.zero_and]
    have hcancel := hclear (m := stsCommandCancel) rfl
    have hreset := hclear (m := stsResetEstablishment) rfl
    simp [stsExtraActions, hcancel, hreset]

/-- A write of the owner without extra actions is its action. -/
theorem exec_wrSts_action (n : Width) {l : Locality} {lane : BitVec 2} {v : Word} {s : State} {a : Word} (hl : l ≠ 4)
    (hs : s.beStartupError = false) (howner : s.activeLocty = some l)
    (hextra : s.beTpmVersion ≠ .v2_0 ∨ laneWrite v n lane &&& 0x03000000#32 = 0#32)
    (ha : laneWrite v n lane &&& 0x62#32 = a) :
    exec (.wrSts n (pageOf l) lane v) s = .next (stsAction l a s).quiet := by
  rw [exec_wrSts_pageOf n lane v hl hs, stsWrite_of_owner howner, stsExtraActions_of_none hextra, ha]

/-- Settles O42: with no action to perform, the extra actions are all. -/
theorem stsWriteWithoutAction : Obligations.StsWriteWithoutAction := by
  unfold Obligations.StsWriteWithoutAction
  intro n l lane v s hl hs howner hnone
  rw [exec_wrSts_pageOf n lane v hl hs, stsWrite_of_owner howner, stsAction_of_not_mem hnone, stsExtraActions_eq hl]
  rfl

/-- Settles O43: the write without the two bits performs the same action, on the state the extra actions leave. -/
theorem stsExtraActionsComeFirst : Obligations.StsExtraActionsComeFirst := by
  unfold Obligations.StsExtraActionsComeFirst
  intro n l lane v v' s hl hs howner hv
  have haction : laneWrite v' n lane &&& 0x62#32 = laneWrite v n lane &&& 0x62#32 := by
    rw [hv, BitVec.and_assoc]
    rfl
  have hnone : laneWrite v' n lane &&& 0x03000000#32 = 0#32 := by
    rw [hv, BitVec.and_assoc]
    exact BitVec.and_zero
  rw [← stsExtraActions_eq hl (laneWrite v n lane) s, exec_wrSts_action n hl (by simpa using hs) (by simpa using howner)
    (.inr hnone) haction, exec_wrSts_pageOf n lane v hl hs, stsWrite_of_owner howner]

end Sys2Proof.Machine
end

section
/-! PROOFS. The actions of an STS write, COMMAND_READY, TPM_GO and RESPONSE_RETRY, by the state that each meets
(spec/43_sts.md R206 to R208, spec/44_abort.md R230, R231). -/

namespace Sys2Proof.Machine

/-! ## COMMAND_READY -/

theorem State.setStsStore_self (s : State) (l : Locality) : s.setStsStore l (s.bank l).sts = s := by
  refine State.ext_banks (fun k => ?_) rfl
  rw [State.bank_setStsStore]
  split
  · next hk => rw [hk]
  · rfl

/-- The state and the STS flags of a record are stored independently. -/
theorem State.setLocState_setStsStore (s : State) (l : Locality) (x : LocState) (y : Word) :
    (s.setLocState l x).setStsStore l y = (s.setStsStore l y).setLocState l x := by
  refine State.ext_banks (fun k => ?_) rfl
  simp only [State.bank_setLocState, State.bank_setStsStore]
  split <;> simp

/-- READY, with COMMAND_READY the one flag beside those that persist: where the action leads from IDLE and COMPLETION,
and a self-abort from a command (spec/43_sts.md R206, spec/44_abort.md R231). -/
def State.readied (s : State) (l : Locality) : State :=
  (s.setStsStore l (((s.bank l).sts &&& 0x0C000004#32) ||| 0x40#32)).setLocState l .ready

theorem stsSet_setLocState_ready (l : Locality) (s : State) :
    stsSet l stsCommandReady (s.setLocState l .ready) = s.readied l := by
  rw [stsSet, State.setLocState_setStsStore]
  simp only [State.setLocState_fields]
  rfl

theorem State.readied_sts (s : State) (l : Locality) :
    ((s.readied l).bank l).sts = stsReplace (s.bank l).sts stsCommandReady := by
  simp only [State.readied, State.setLocState_fields, State.setStsStore_fields, if_true]
  rfl

/-- DATA_AVAILABLE cleared alone, the last step of COMMAND_READY in COMPLETION (spec/43_sts.md R206). -/
def State.withoutData (s : State) (l : Locality) : State :=
  s.setStsStore l (clearBits (s.bank l).sts stsDataAvailable)

/-- A status-set that omits DATA_AVAILABLE leaves that step nothing to clear. -/
theorem State.withoutData_of_stsReplace {s : State} {l : Locality} {sts : Word}
    (h : (s.bank l).sts = stsReplace sts stsCommandReady) : s.withoutData l = s := by
  have hclear : clearBits (stsReplace sts stsCommandReady) stsDataAvailable = stsReplace sts stsCommandReady := by
    change setBits (sts &&& stsPersist) stsCommandReady &&& ~~~stsDataAvailable = _
    rw [setBits_and, BitVec.and_assoc]
    rfl
  rw [State.withoutData, h, hclear, ← h, State.setStsStore_self]

section CommandReady
variable {l : Locality} {s : State}

theorem commandReady_of_idle (h : (s.bank l).state = .idle) :
    commandReady l s = raiseIrq (some l) 0x80#32 (s.readied l) := by
  simp only [commandReady, h]
  rfl

theorem commandReady_of_ready (h : (s.bank l).state = .ready) : commandReady l s = { s with rwOffset := 0#16 } := by
  simp only [commandReady, h]

theorem commandReady_of_command (h : (s.bank l).state = .reception ∨ (s.bank l).state = .execution) :
    commandReady l s = prepAbort (some l) l s := by
  obtain h | h := h <;> simp only [commandReady, h]

theorem commandReady_of_completion (h : (s.bank l).state = .completion) :
    commandReady l s = readyFromCompletion l s := by
  simp only [commandReady, h]

theorem readyFromCompletion_of_clear (h : (s.bank l).sts &&& 0x40#32 = 0#32) :
    readyFromCompletion l s = raiseIrq (some l) 0x80#32 { s.readied l with rwOffset := 0#16 } := by
  have hclear : anySet (s.bank l).sts stsCommandReady = false := anySet_eq_false.2 h
  simp only [readyFromCompletion, State.setLocState_fields, stsSet_setLocState_ready]
  rw [if_neg (by simpa using hclear)]
  refine State.withoutData_of_stsReplace (sts := (s.bank l).sts) ?_
  simp only [raiseIrq_bank]
  exact s.readied_sts l

theorem readyFromCompletion_of_set (h : (s.bank l).sts &&& 0x40#32 ≠ 0#32) :
    readyFromCompletion l s =
      { (s.setStsStore l ((s.bank l).sts &&& 0xFFFFFFEF#32)).setLocState l .ready with rwOffset := 0#16 } := by
  have hset : anySet (s.bank l).sts stsCommandReady = true := anySet_eq_true.2 h
  simp only [readyFromCompletion, State.setLocState_fields]
  rw [if_pos (by simpa using hset), State.setLocState_setStsStore]
  simp only [State.setLocState_fields]
  rfl

/-- Settles O38, by the state the action meets; in COMPLETION by the stored COMMAND_READY. -/
theorem commandReadyMakesReady : Obligations.CommandReadyMakesReady := by
  unfold Obligations.CommandReadyMakesReady
  intro n l lane v s hl hs howner hextra hbits
  rw [exec_wrSts_action n hl hs howner hextra hbits, stsAction_commandReady]
  refine ⟨fun hstate => ?idle, fun hstate => ?ready, fun hstate hclear => ?raised, fun hstate hset => ?stored⟩
  case idle =>
    rw [commandReady_of_idle hstate]
    rfl
  case ready =>
    rw [commandReady_of_ready hstate]
    rfl
  case raised =>
    rw [commandReady_of_completion hstate, readyFromCompletion_of_clear hclear]
    rfl
  case stored =>
    rw [commandReady_of_completion hstate, readyFromCompletion_of_set hset]
    rfl

/-- A self-abort at once: the owner keeps the interface, so that the hand-over to it changes nothing (spec/44_abort.md
R230, R231). -/
theorem prepAbort_to_owner (hinv : DeviceInv s) (howner : s.activeLocty = some l) (hexec : s.anyExecution = false) :
    prepAbort (some l) l s =
      raiseIrq (some l) 0x80#32 { s.readied l with rwOffset := 0#16, nextLocty := none, abortingLocty := none } := by
  have haborted : DeviceInv (selfAbort l s.settled) := hinv.clearPending.rewind.selfAbort nofun
  have hself := haborted.newActiveLocality_self
  rw [show (selfAbort l s.settled).activeLocty = some l by simpa using howner] at hself
  rw [prepAbort_now hexec, abort_eq rfl, if_pos rfl]
  change newActiveLocality (some l) (selfAbort l s.settled) = _
  rw [hself, selfAbort, stsSet_setLocState_ready]
  rfl

/-- Settles O39: the self-abort at once, or left pending behind the command in EXECUTION. -/
theorem commandReadyAborts : Obligations.CommandReadyAborts := by
  unfold Obligations.CommandReadyAborts
  intro n l lane v s hinv hs howner hextra hbits
  rw [exec_wrSts_action n (hinv.ne_four howner) hs howner hextra hbits, stsAction_commandReady]
  refine ⟨fun hstate hidle => ?now, fun hstate hexec => ?pending⟩
  case now =>
    rw [commandReady_of_command (.inl hstate), prepAbort_to_owner hinv howner (State.anyExecution_eq_false hidle)]
    rfl
  case pending =>
    rw [commandReady_of_command hstate, prepAbort_deferred (s.anyExecution_iff.2 hexec)]
    rfl

end CommandReady

/-! ## TPM_GO and RESPONSE_RETRY -/

/-- The submitted command: the bytes received, as they stand in the buffer (spec/47_backend.md R292, R301). -/
theorem submit_eq (l : Locality) (s : State) :
    submit l s =
      { s with
        cmd := { locty := l, inLen := s.rwOffset, outCap := s.bufferSize }
        beIn := (List.range s.rwOffset.toNat).map (Memory.read s.buffer)
        beOutstanding := true
        faults := if s.beOutstanding then { s.faults with backendBusy := true } else s.faults } := by
  unfold submit
  split <;> rfl

theorem tpmGo_of_complete {l : Locality} {s : State} (hstate : (s.bank l).state = .reception)
    (hcomplete : (s.bank l).sts &&& 0x08#32 = 0#32) : tpmGo l s = (submit l s).setLocState l .execution := by
  have hexpect : anySet (s.bank l).sts stsExpect = false := anySet_eq_false.2 hcomplete
  exact if_pos ⟨hstate, Bool.eq_false_iff.1 hexpect⟩

theorem tpmGo_dropped {l : Locality} {s : State}
    (h : (s.bank l).state ≠ .reception ∨ (s.bank l).sts &&& 0x08#32 ≠ 0#32) : tpmGo l s = s := by
  refine if_neg fun ⟨hstate, hexpect⟩ => ?_
  obtain hother | hopen := h
  · exact hother hstate
  · exact hexpect (anySet_eq_true.2 hopen)

/-- Settles O40: the complete command is submitted, every other TPM_GO is dropped. -/
theorem tpmGoSubmits : Obligations.TpmGoSubmits := by
  unfold Obligations.TpmGoSubmits
  intro n l lane v s hl hs howner hextra hbits
  rw [exec_wrSts_action n hl hs howner hextra hbits, stsAction_tpmGo]
  refine ⟨fun hstate hcomplete => ?submitted, fun hdropped => ?dropped⟩
  case submitted =>
    rw [tpmGo_of_complete hstate hcomplete, submit_eq]
    rfl
  case dropped => rw [tpmGo_dropped hdropped, State.quiet]

/-- Settles O41: in COMPLETION the status-set from the start of the response, elsewhere nothing. -/
theorem responseRetryRearms : Obligations.ResponseRetryRearms := by
  unfold Obligations.ResponseRetryRearms
  intro n l lane v s hl hs howner hextra hbits
  rw [exec_wrSts_action n hl hs howner hextra hbits, stsAction_responseRetry, responseRetry]
  refine ⟨fun hstate => ?completion, fun hstate => ?elsewhere⟩
  case completion =>
    rw [if_pos hstate]
    rfl
  case elsewhere => rw [if_neg hstate, State.quiet]

end Sys2Proof.Machine
end

section
/-! PROOFS. The interrupt and identification registers on the bus (spec/45_interrupt_regs.md, spec/46_id_regs.md): which words
are a register's write, what the registers read, the four that ignore a write, and the writes of INT_ENABLE and
INT_STATUS. -/

namespace Sys2Proof.Machine
open Laws

/-! ## The words of a register's write row -/

/-- The mask of a register's row compares W and REG. -/
theorem and_register_mask_iff {tw : BitVec 18} {w : BitVec 1} {reg : BitVec 10} :
    tw &&& 0x08FFC#18 = twOf 0#2 w 0#3 reg 0#2 ↔ twW tw = w ∧ twReg tw = reg := by
  have hmask : tw &&& 0x08FFC#18 = twOf 0#2 (twW tw) 0#3 (twReg tw) 0#2 := by
    simpa only [twOf_fields] using register_mask (twSz tw) (twW tw) (twLoc tw) (twReg tw) (twLane tw)
  simp [hmask, twOf_inj]

/-- A word of a valid width that matches a register's write row and is not for page 4 decodes to that row. -/
theorem decodeBus_of_write_row {tw : BitVec 18} {n : Width} {r : RegName} (hn : widthOf (twSz tw) = some n)
    (hloc : twLoc tw ≠ 4#3) (hr : r.wf = true) (hrow : tw &&& 0x08FFC#18 = twOf 0#2 1#1 0#3 r.code 0#2) (v : Word) :
    decodeBus tw v = writeInstr n (twLoc tw) (twLane tw) v r := by
  obtain ⟨hw, hreg⟩ := and_register_mask_iff.mp hrow
  simp [decodeBus, hn, hw, hloc, hreg, regOf_code hr]

/-! ## The registers that ignore a write (spec/45_interrupt_regs.md R255, spec/46_id_regs.md R272, R278) -/

/-- The registers a guest can only read. -/
def readOnlyRegisters : List RegName := [.intVector, .intfCapability, .didVid, .rid]

theorem exec_write_readOnly {r : RegName} (hr : r ∈ readOnlyRegisters) (n : Width) (loc : BitVec 3) (lane : BitVec 2)
    (v : Word) (s : State) : exec (writeInstr n loc lane v r) s = .next { s with reply := .none } := by
  have hrow : exec (writeInstr n loc lane v r) s = .next (busWrite loc (fun _ s => s) s) := by
    simp only [readOnlyRegisters, List.mem_cons, List.not_mem_nil, or_false] at hr
    obtain rfl | rfl | rfl | rfl := hr <;> rfl
  rw [hrow, busWrite_ignored, State.quiet]

/-- Settles O13: W and REG of the word name the register, and its write row serves nothing. -/
theorem readOnlyRegistersIgnoreWrites : Obligations.ReadOnlyRegistersIgnoreWrites := by
  unfold Obligations.ReadOnlyRegistersIgnoreWrites
  refine ⟨fun tw v n hn hloc => ⟨fun h => ?_, fun h => ?_, fun h => ?_, fun h => ?_⟩,
    fun n loc lane v s => ⟨?_, ?_, ?_, ?_⟩⟩
  · exact decodeBus_of_write_row (r := .intVector) hn hloc rfl h v
  · exact decodeBus_of_write_row (r := .intfCapability) hn hloc rfl h v
  · exact decodeBus_of_write_row (r := .didVid) hn hloc rfl h v
  · exact decodeBus_of_write_row (r := .rid) hn hloc rfl h v
  · exact exec_write_readOnly (r := .intVector) (by decide) n loc lane v s
  · exact exec_write_readOnly (r := .intfCapability) (by decide) n loc lane v s
  · exact exec_write_readOnly (r := .didVid) (by decide) n loc lane v s
  · exact exec_write_readOnly (r := .rid) (by decide) n loc lane v s

/-! ## Reads (spec/45_interrupt_regs.md R250, R252, R254, spec/46_id_regs.md R270 to R277) -/

/-- A row that reads a register answers with the lanes of the register's value and changes nothing else. -/
theorem exec_regRead_pageOf {i : Instr} {n : Width} {l : Locality} {lane : BitVec 2}
    {value : Locality → State → Word} {s : State} (hi : exec i s = .next (regRead n (pageOf l) lane value s))
    (hs : s.beStartupError = false) :
    exec i s = .next { s with reply := .device n (laneRead (value l s) n lane) } := by
  rw [hi, regRead_pageOf, if_neg (by simp [hs]), State.answer]

theorem laneRead_zero (n : Width) (lane : BitVec 2) : laneRead 0#32 n lane = 0#32 := by
  rw [laneRead, BitVec.zero_ushiftRight, BitVec.zero_and]

theorem exec_rdIntfCapability_pageOf (n : Width) (l : Locality) (lane : BitVec 2) {s : State}
    (hs : s.beStartupError = false) : exec (.rdIntfCapability n (pageOf l) lane) s =
      .next { s with reply := .device n (laneRead (intfCapability s.beTpmVersion) n lane) } :=
  exec_regRead_pageOf (value := fun _ s => intfCapability s.beTpmVersion) rfl hs

/-- Settles O15: each row reads one value of the state; INTF_CAPABILITY's depends on the version alone. -/
theorem registerReads : Obligations.RegisterReads := by
  unfold Obligations.RegisterReads
  intro n l lane s hs
  refine ⟨?intEnable, ?intStatus, ?interfaceId, ?intVector, ?didVid, ?rid, fun hver => ?v1_2, fun hver => ?v2_0,
    fun hver => ?unspec⟩
  case intEnable => exact exec_regRead_pageOf (value := fun l s => (s.bank l).inte) rfl hs
  case intStatus => exact exec_regRead_pageOf (value := fun l s => (s.bank l).ints) rfl hs
  case interfaceId => exact exec_regRead_pageOf (value := fun l s => (s.bank l).ifaceId) rfl hs
  case intVector =>
    rw [BitVec.ofNat_toNat]
    exact exec_regRead_pageOf (value := fun _ s => s.params.irqNum.setWidth 32) rfl hs
  case didVid => exact exec_regRead_pageOf (value := fun _ _ => didVid) rfl hs
  case rid => exact exec_regRead_pageOf (value := fun _ _ => rid) rfl hs
  case v1_2 => rw [exec_rdIntfCapability_pageOf n l lane hs, hver, intfCapability]
  case v2_0 => rw [exec_rdIntfCapability_pageOf n l lane hs, hver, intfCapability]
  case unspec => rw [exec_rdIntfCapability_pageOf n l lane hs, hver, intfCapability, laneRead_zero]

/-! ## The writes of INT_ENABLE and INT_STATUS (spec/45_interrupt_regs.md R251, R253) -/

/-- Without a startup error a write from localities 0 to 3 reaches the register. -/
theorem busWrite_served {l : Locality} {s : State} (hl : l ≠ 4) (hs : s.beStartupError = false)
    (serve : Locality → State → State) : busWrite (pageOf l) serve s = (serve l s).quiet := by
  rw [busWrite_pageOf, if_neg (by simp [hl, hs])]

theorem exec_wrIntEnable_pageOf (n : Width) {l : Locality} (lane : BitVec 2) (v : Word) {s : State} (hl : l ≠ 4)
    (hs : s.beStartupError = false) : exec (.wrIntEnable n (pageOf l) lane v) s =
      .next (intEnableWrite l (laneWrite v n lane) (laneKeep n lane) s).quiet :=
  congrArg Host.Outcome.next
    (busWrite_served hl hs fun l s => intEnableWrite l (laneWrite v n lane) (laneKeep n lane) s)

theorem exec_wrIntStatus_pageOf (n : Width) {l : Locality} (lane : BitVec 2) (v : Word) {s : State} (hl : l ≠ 4)
    (hs : s.beStartupError = false) : exec (.wrIntStatus n (pageOf l) lane v) s =
      .next (intStatusWrite l (laneWrite v n lane) s).quiet :=
  congrArg Host.Outcome.next (busWrite_served hl hs fun l s => intStatusWrite l (laneWrite v n lane) s)

theorem intEnableWrite_of_owner {l : Locality} {s : State} (h : s.activeLocty = some l) (wv keep : Word) :
    intEnableWrite l wv keep s = s.setInte l (((s.bank l).inte &&& keep) ||| (wv &&& inteWritable)) := if_pos h

theorem intEnableWrite_of_not_owner {l : Locality} {s : State} (h : s.activeLocty ≠ some l) (wv keep : Word) :
    intEnableWrite l wv keep s = s := if_neg h

theorem intStatusWrite_of_owner {l : Locality} {s : State} (h : s.activeLocty = some l) (wv : Word) :
    intStatusWrite l wv s = ackIrq l wv s := if_pos h

theorem intStatusWrite_of_not_owner {l : Locality} {s : State} (h : s.activeLocty ≠ some l) (wv : Word) :
    intStatusWrite l wv s = s := if_neg h

/-- The acknowledgement clears the supported bits and lowers the line only when they were the last ones set. -/
theorem ackIrq_eq (l : Locality) (wv : Word) (s : State) :
    ackIrq l wv s = { s.setInts l ((s.bank l).ints &&& ~~~(wv &&& 0x87#32)) with
      irqLine := if wv &&& 0x87#32 ≠ 0#32 ∧ (s.bank l).ints ≠ 0#32 ∧ (s.bank l).ints &&& ~~~(wv &&& 0x87#32) = 0#32
        then false else s.irqLine } := by
  by_cases hset : wv &&& 0x87#32 ≠ 0#32 ∧ (s.bank l).ints ≠ 0#32
  · by_cases hlast : (s.bank l).ints &&& ~~~(wv &&& 0x87#32) = 0#32
    · rw [if_pos (and_assoc.mp ⟨hset, hlast⟩)]
      exact (if_pos hset).trans (if_pos hlast)
    · rw [if_neg fun ⟨_, _, hzero⟩ => hlast hzero]
      exact (if_pos hset).trans (if_neg hlast)
  · rw [if_neg fun ⟨hbits, hints, _⟩ => hset ⟨hbits, hints⟩]
    exact if_neg hset

/-- Settles O47: the owner's write is the merge, any other locality's nothing. -/
theorem intEnableWriteMerges : Obligations.IntEnableWriteMerges := by
  unfold Obligations.IntEnableWriteMerges
  intro n l lane v s hl hs
  rw [exec_wrIntEnable_pageOf n lane v hl hs]
  refine ⟨fun howner => ?owner, fun hother => ?other⟩
  case owner => rw [intEnableWrite_of_owner howner, inteWritable, State.quiet]
  case other => rw [intEnableWrite_of_not_owner hother, State.quiet]

/-- Settles O48: the owner's write is the acknowledgement, any other locality's nothing. -/
theorem intStatusWriteClears : Obligations.IntStatusWriteClears := by
  unfold Obligations.IntStatusWriteClears
  intro n l lane v s hl hs
  rw [exec_wrIntStatus_pageOf n lane v hl hs]
  refine ⟨fun howner => ?owner, fun hother => ?other⟩
  case owner => rw [intStatusWrite_of_owner howner, ackIrq_eq, State.quiet]
  case other => rw [intStatusWrite_of_not_owner hother, State.quiet]

end Sys2Proof.Machine
end

section
/-! PROOFS. The write of INTERFACE_ID, which serves localities 0 to 3 whether they own the interface or not
(spec/46_id_regs.md R275, the spec's decision D26). -/

namespace Sys2Proof.Machine

theorem exec_wrInterfaceId_pageOf (n : Width) {l : Locality} (lane : BitVec 2) (v : Word) {s : State} (hl : l ≠ 4)
    (hs : s.beStartupError = false) : exec (.wrInterfaceId n (pageOf l) lane v) s =
      .next (interfaceIdWrite (laneWrite v n lane) s).quiet :=
  congrArg Host.Outcome.next (busWrite_served hl hs fun _ s => interfaceIdWrite (laneWrite v n lane) s)

theorem interfaceIdWrite_of_lock {wv : Word} (h : wv &&& ifaceIntSelLock ≠ 0#32) (s : State) :
    interfaceIdWrite wv s = s.mapBanks fun _ b => { b with ifaceId := b.ifaceId ||| ifaceIntSelLock } :=
  if_pos (anySet_eq_true.mpr h)

theorem interfaceIdWrite_of_no_lock {wv : Word} (h : wv &&& ifaceIntSelLock = 0#32) (s : State) :
    interfaceIdWrite wv s = s :=
  if_neg (Bool.eq_false_iff.mp (anySet_eq_false.mpr h))

/-- Settles O49: with bit 19 the write locks every locality's record, without it nothing is written. -/
theorem interfaceIdLock : Obligations.InterfaceIdLock := by
  unfold Obligations.InterfaceIdLock
  intro n l lane v s hl hs
  rw [exec_wrInterfaceId_pageOf n lane v hl hs]
  refine ⟨fun hlock => ?locked, fun hclear => ?ignored⟩
  case locked => rw [interfaceIdWrite_of_lock hlock, State.quiet, ifaceIntSelLock]
  case ignored => rw [interfaceIdWrite_of_no_lock hclear, State.quiet]

end Sys2Proof.Machine
end

section
/-! PROOFS. COMPLETE outside its contract, and COMPLETE with no hand-over pending, as one expression
(spec/47_backend.md R296, R298, R299, R302). -/

namespace Sys2Proof.Machine

/-! ## Where COMPLETE stops -/

theorem exec_complete_not_outstanding (resp : List Byte) (selftest : Bool) (ret : Int) (est : Bool) {s : State}
    (hout : s.beOutstanding = false) :
    exec (.complete resp selftest ret est) s = .refused .completionNotEnabled :=
  if_neg (Bool.eq_false_iff.mp hout)

theorem exec_complete_over_capacity {resp : List Byte} (selftest : Bool) (ret : Int) (est : Bool) {s : State}
    (hout : s.beOutstanding = true) (hlen : s.cmd.outCap.val < resp.length) :
    exec (.complete resp selftest ret est) s = .fault .responseOverCapacity :=
  (if_pos hout).trans (if_neg (Nat.not_le.mpr hlen))

/-- Settles O52: the two tests of COMPLETE, in their order. -/
theorem completionOutsideItsContract : Obligations.CompletionOutsideItsContract := by
  unfold Obligations.CompletionOutsideItsContract
  intro resp selftest ret est s
  exact ⟨exec_complete_not_outstanding resp selftest ret est, exec_complete_over_capacity selftest ret est⟩

/-! ## COMPLETE with nothing pending -/

/-- The submitter in COMPLETION with VALID and DATA_AVAILABLE, SELFTEST_DONE in every record when drawn: the response as
one update of the records and of the fields beside them (spec/47_backend.md R296, R298). -/
theorem responded_eq (resp : List Byte) (selftest est : Bool) (s : State) :
    s.responded resp selftest est =
      { s.mapBanks (fun k b => { b with
          state := if k = s.cmd.locty then .completion else b.state
          sts := if k = s.cmd.locty then
              ((b.sts ||| (if selftest then 0x04#32 else 0#32)) &&& 0x0C000004#32) ||| 0x90#32
            else b.sts ||| (if selftest then 0x04#32 else 0#32) }) with
        buffer := Memory.writeBytes s.buffer 0 resp
        beEstablished := est
        beOutstanding := false
        rwOffset := 0#16 } := by
  refine State.ext_banks (fun k => Bank.ext_fields ?state (by simp) ?sts ?ifaceId (by simp) (by simp)) ?beside
  case state => simp [State.responded]
  case sts => simp [responded_sts]
  case ifaceId => simp [State.responded]
  case beside => cases selftest <;> rfl

/-- With no hand-over pending, COMPLETE is the response and the interrupt on the submitter (spec/47_backend.md R296). -/
theorem completeCommand_of_none_pending (resp : List Byte) (selftest est : Bool) {s : State}
    (hnone : s.nextLocty = none) :
    completeCommand resp selftest est s =
      raiseIrq (some s.cmd.locty) 0x00000003#32 (s.responded resp selftest est) := by
  have hpending : (s.responded resp selftest est).nextLocty.isSome ≠ true := by simp [hnone]
  rw [completeCommand_eq, if_neg hpending]
  rfl

/-- Settles O50: the response, then the interrupt; no hand-over runs, and the return code is not read. -/
theorem completionDelivers : Obligations.CompletionDelivers := by
  unfold Obligations.CompletionDelivers
  intro resp selftest ret est s hout hlen hnone
  rw [exec_complete hout hlen, completeCommand_of_none_pending resp selftest est hnone, responded_eq, State.quiet]

end Sys2Proof.Machine
end

section
/-! PROOFS. SELFTEST_DONE: every operation but a reset keeps the bit where it stands, and a completion that draws it sets
it in all five records (spec/47_backend.md R298). -/

namespace Sys2Proof.Machine

/-! ## The bit under setting and status-setting -/

theorem setBits_and_self {w : Nat} (v m : BitVec w) : setBits v m &&& m = m := by
  ext i hi
  simp +contextual [setBits]

/-- SELFTEST_DONE is in STS_PERSIST, so a status-set to other flags keeps it (spec/10_state.md R44). -/
theorem stsReplace_and_selftestDone (sts : Word) {f : Word} (hf : f &&& stsSelftestDone = 0#32) :
    stsReplace sts f &&& stsSelftestDone = sts &&& stsSelftestDone := by
  rw [show stsReplace sts f = setBits (sts &&& stsPersist) f from rfl, setBits_and, hf, BitVec.or_zero,
    BitVec.and_assoc, show stsPersist &&& stsSelftestDone = stsSelftestDone from rfl]

/-! ## Keeping the bit -/

/-- SELFTEST_DONE stands in every record of t as in s. -/
def SelftestKept (s t : State) : Prop :=
  ∀ k, (t.bank k).sts &&& stsSelftestDone = (s.bank k).sts &&& stsSelftestDone

theorem SelftestKept.refl (s : State) : SelftestKept s s := fun _ => rfl

theorem SelftestKept.trans {s t u : State} (h : SelftestKept s t) (h' : SelftestKept t u) : SelftestKept s u :=
  fun k => (h' k).trans (h k)

section Operations
variable {s t : State}

/-! ## The operations under the registers, each after a way from s to t -/

/-- An operation that does not store STS. -/
theorem SelftestKept.of_sts {u : State} (h : SelftestKept s t) (hsts : ∀ k, (u.bank k).sts = (t.bank k).sts) :
    SelftestKept s u :=
  h.trans fun k => by rw [hsts k]

theorem SelftestKept.setStsStore (h : SelftestKept s t) (l : Locality) {x : Word}
    (hx : x &&& stsSelftestDone = (t.bank l).sts &&& stsSelftestDone) : SelftestKept s (t.setStsStore l x) := by
  refine h.trans fun k => ?_
  rw [State.bank_setStsStore]
  split
  · next hk => rw [hk, hx]
  · rfl

theorem SelftestKept.stsSet (h : SelftestKept s t) (l : Locality) {f : Word} (hf : f &&& stsSelftestDone = 0#32) :
    SelftestKept s (stsSet l f t) :=
  h.setStsStore l (stsReplace_and_selftestDone _ hf)

theorem SelftestKept.setLocState (h : SelftestKept s t) (l : Locality) (x : LocState) :
    SelftestKept s (t.setLocState l x) :=
  h.of_sts (by simp)

theorem SelftestKept.raiseIrq (h : SelftestKept s t) (l : Option Locality) (m : Word) :
    SelftestKept s (raiseIrq l m t) :=
  h.of_sts (by simp)

/-! ## The FIFO -/

theorem SelftestKept.checkComplete (h : SelftestKept s t) (l : Locality) : SelftestKept s (checkComplete l t) := by
  have hmore := h.stsSet l (f := stsExpect ||| stsValid) (by decide)
  have hfull := h.stsSet l (f := stsValid) (by decide)
  unfold Machine.checkComplete
  dsimp only
  split
  · split_ifs
    · exact hmore.raiseIrq _ _
    · exact hfull.raiseIrq _ _
    · exact hmore
    · exact hfull
  · exact h

theorem SelftestKept.appendBytes (h : SelftestKept s t) (l : Locality) (bs : List Byte) :
    SelftestKept s (appendBytes l bs t) := by
  induction bs generalizing t with
  | nil => exact h
  | cons b bs ih =>
    have hstored : SelftestKept s (storeByte b t) := h.of_sts (by simp)
    unfold Machine.appendBytes
    split_ifs
    · exact ih (hstored.checkComplete l)
    · exact h.stsSet l (by decide)
    · exact h

theorem SelftestKept.enterReception (h : SelftestKept s t) (l : Locality) : SelftestKept s (enterReception l t) := by
  unfold Machine.enterReception
  split
  · exact (h.setLocState l _).stsSet l (by decide)
  · exact h

theorem SelftestKept.fifoWrite (h : SelftestKept s t) (l : Locality) (bytes : List Byte) :
    SelftestKept s (fifoWrite l bytes t) :=
  fifoWrite_cases l bytes t h fun _ => (h.enterReception l).appendBytes l bytes

theorem SelftestKept.readByte (h : SelftestKept s t) (l : Locality) : SelftestKept s (readByte l t).2 := by
  refine h.trans fun k => ?_
  obtain hsame | hended := (readMoves_readByte l t).sts k
  · rw [hsame]
  · rw [hended, stsReplace_and_selftestDone _ (by decide)]

theorem SelftestKept.readBytes (h : SelftestKept s t) (l : Locality) (n : Nat) :
    SelftestKept s (readBytes l n t).2 := by
  induction n generalizing t with
  | zero => exact h
  | succ n ih => exact ih (h.readByte l)

theorem SelftestKept.fifoRead (h : SelftestKept s t) (n : Width) (lane : BitVec 2) (l : Locality) :
    SelftestKept s (fifoRead n lane l t).2 := by
  unfold Machine.fifoRead
  split
  · exact h.readBytes l _
  · exact h

/-! ## Hand-over and abort -/

theorem SelftestKept.selfAbort (h : SelftestKept s t) (x : Locality) : SelftestKept s (selfAbort x t) :=
  ((h.setLocState x _).stsSet x (by decide)).raiseIrq _ _

theorem SelftestKept.newActiveLocality (h : SelftestKept s t) (new : Option Locality) :
    SelftestKept s (newActiveLocality new t) :=
  h.of_sts (by simp)

/-- The hand-over of `abort` stores no STS, its self-abort sets COMMAND_READY (spec/44_abort.md R231). -/
theorem SelftestKept.abort (h : SelftestKept s t) : SelftestKept s (abort t) := by
  have hcleared : SelftestKept s { t with rwOffset := 0#16 } := h.of_sts fun _ => rfl
  have hands {u : State} (hu : SelftestKept s u) (new : Option Locality) :
      SelftestKept s (Machine.newActiveLocality new u).clearPending := (hu.newActiveLocality new).of_sts fun _ => rfl
  unfold Machine.abort
  dsimp only
  split
  · split
    · exact hands (hcleared.selfAbort _) _
    · exact hands hcleared _
  · exact hands hcleared _

theorem SelftestKept.prepAbort (h : SelftestKept s t) (a : Option Locality) (n : Locality) :
    SelftestKept s (prepAbort a n t) := by
  have hpending : SelftestKept s { t with abortingLocty := a, nextLocty := some n } := h.of_sts fun _ => rfl
  unfold Machine.prepAbort
  dsimp only
  split
  · exact hpending.of_sts (by simp)
  · exact hpending.abort

/-! ## The status register and ACCESS -/

theorem SelftestKept.readyFromCompletion (h : SelftestKept s t) (l : Locality) :
    SelftestKept s (readyFromCompletion l t) := by
  have hready : SelftestKept s (({ t with rwOffset := 0#16 } : State).setLocState l .ready) :=
    SelftestKept.setLocState (h.of_sts fun _ => rfl) l .ready
  have hclear {u : State} (hu : SelftestKept s u) :
      SelftestKept s (u.setStsStore l (clearBits (u.bank l).sts stsDataAvailable)) :=
    hu.setStsStore l (clearBits_and_of_disjoint _ (by decide))
  unfold Machine.readyFromCompletion
  dsimp only
  split
  · exact hclear hready
  · exact hclear ((hready.stsSet l (by decide)).raiseIrq _ _)

theorem SelftestKept.commandReady (h : SelftestKept s t) (l : Locality) : SelftestKept s (commandReady l t) := by
  unfold Machine.commandReady
  split
  · exact h.of_sts fun _ => rfl
  · exact ((h.stsSet l (by decide)).setLocState l _).raiseIrq _ _
  · exact h.prepAbort _ _
  · exact h.prepAbort _ _
  · exact h.readyFromCompletion l

theorem SelftestKept.responseRetry (h : SelftestKept s t) (l : Locality) : SelftestKept s (responseRetry l t) := by
  unfold Machine.responseRetry
  split
  · exact SelftestKept.stsSet (h.of_sts fun _ => rfl) l (by decide)
  · exact h

theorem SelftestKept.stsWrite (h : SelftestKept s t) (l : Locality) (wv : Word) : SelftestKept s (stsWrite l wv t) := by
  have hextra : SelftestKept s (stsExtraActions l wv t) := h.of_sts (by simp)
  exact stsWrite_cases l wv t h hextra (hextra.commandReady l) (hextra.of_sts (by simp)) (hextra.responseRetry l)

theorem SelftestKept.accessWrite (h : SelftestKept s t) (l : Locality) (wv : Word) :
    SelftestKept s (accessWrite l wv t) :=
  accessWrite_induct (fun _ _ _ hu => hu.of_sts (by simp)) (fun _ _ hu => hu.of_sts (by simp))
    (fun a n _ hu => hu.prepAbort a n) (fun new _ hu => hu.newActiveLocality new) l wv h

end Operations

/-! ## Guest transactions and completions -/

/-- No guest transaction sets or clears SELFTEST_DONE anywhere. -/
theorem GuestEffect.selftestKept {s t : State} (h : GuestEffect s t) : SelftestKept s t := by
  induction h with
  | unchanged => exact .refl s
  | answered r c h ih => exact ih
  | widthFault => exact .refl s
  | fifoRead n lane l => exact (SelftestKept.refl s).fifoRead n lane l
  | fifoWrite hl bytes => exact (SelftestKept.refl s).fifoWrite _ bytes
  | accessWrite hl wv => exact (SelftestKept.refl s).accessWrite _ wv
  | stsWrite hl wv => exact (SelftestKept.refl s).stsWrite _ wv
  | intEnableWrite hl v n lane => exact (SelftestKept.refl s).of_sts (by simp)
  | intStatusWrite hl wv => exact (SelftestKept.refl s).of_sts (by simp)
  | interfaceIdWrite wv => exact (SelftestKept.refl s).of_sts (by simp)

/-- After the bit is drawn, nothing in COMPLETE touches it, the pending hand-over included (spec/47_backend.md R296). -/
theorem selftestKept_completeCommand (resp : List Byte) (selftest est : Bool) (s : State) :
    SelftestKept (markSelftest selftest s) (completeCommand resp selftest est s) := by
  have hmarked : SelftestKept (markSelftest selftest s) (markSelftest selftest
      { s with buffer := Memory.writeBytes s.buffer 0 resp, beEstablished := est, beOutstanding := false }) :=
    (SelftestKept.refl _).of_sts fun k => by rw [markSelftest_sts, markSelftest_sts]; rfl
  have hresponded : SelftestKept (markSelftest selftest s) (s.responded resp selftest est) :=
    ((hmarked.stsSet s.cmd.locty (f := stsValid ||| stsDataAvailable) (by decide)).setLocState
      s.cmd.locty .completion).of_sts fun _ => rfl
  rw [completeCommand_eq]
  split
  · exact hresponded.abort.raiseIrq _ _
  · exact hresponded.raiseIrq _ _

theorem completeCommand_selftestDone (resp : List Byte) (selftest est : Bool) (s : State) (k : Locality) :
    ((completeCommand resp selftest est s).bank k).sts &&& stsSelftestDone =
      if selftest then stsSelftestDone else (s.bank k).sts &&& stsSelftestDone := by
  rw [selftestKept_completeCommand resp selftest est s k, markSelftest_sts]
  split
  · exact setBits_and_self _ _
  · rfl

/-- Settles O58: COMPLETE by the bit it draws, a guest transaction by the list of what it can do. -/
theorem selftestDoneIsSticky : Obligations.SelftestDoneIsSticky := by
  unfold Obligations.SelftestDoneIsSticky
  constructor
  · intro resp selftest ret est s t k h
    cases exec_effect h with
    | guest hi _ => cases hi
    | completion => exact completeCommand_selftestDone resp selftest est s k
  · intro i s t k h hi
    cases exec_effect h with
    | guest _ hg => exact hg.selftestKept k
    | completion => cases hi
    | reset => cases hi

end Sys2Proof.Machine
end

section
/-! PROOFS. The interrupt primitive and its enables, and that no transaction of the guest stops the device
(spec/60_exceptions.md R310, R331, spec/40_dispatch.md R129). -/

namespace Sys2Proof.Machine

/-- Settles O46: enabled means INT_ENABLED and a source of the mask, and the primitive acts exactly then. -/
theorem raiseIrqNeedsEnables : Obligations.RaiseIrqNeedsEnables := by
  unfold Obligations.RaiseIrqNeedsEnables
  refine fun mask s => ⟨raiseIrq_none mask s, fun l => ⟨fun ⟨henabled, hsource⟩ => ?raised, fun hmasked => ?masked⟩⟩
  case raised => exact raiseIrq_enabled (anySet_eq_true.2 henabled) (anySet_eq_true.2 hsource)
  case masked => exact raiseIrq_disabled (hmasked.imp anySet_eq_false.2 anySet_eq_false.2)

/-- Only a word of the refused width is a transaction that neither reads nor writes (spec/30_encoding.md R92). -/
theorem eq_refusedWidth_of_no_access {i : Instr} (hi : isEvent i = false) (hread : readOf i = none)
    (hwrite : writeOf i = none) : ∃ w loc reg lane v, i = .refusedWidth w loc reg lane v := by
  cases i
  case refusedWidth => exact ⟨_, _, _, _, _, rfl⟩
  all_goals simp [isEvent, readOf, writeOf] at hi hread hwrite

/-- Settles O7: a read runs the read pipeline, a write the write pipeline, and a word of the refused width records its
fault. -/
theorem everyTransactionAnswersANextState : Obligations.EveryTransactionAnswersANextState := by
  unfold Obligations.EveryTransactionAnswersANextState
  intro i s hi
  cases hread : readOf i with
  | some page =>
    obtain ⟨serve, -, hexec⟩ := exec_read hread
    exact ⟨_, hexec s⟩
  | none =>
    cases hwrite : writeOf i with
    | some loc =>
      obtain ⟨serve, hexec⟩ := exec_write hwrite
      exact ⟨_, hexec s⟩
    | none =>
      obtain ⟨w, loc, reg, lane, v, rfl⟩ := eq_refusedWidth_of_no_access hi hread hwrite
      exact ⟨_, rfl⟩

end Sys2Proof.Machine
end

section
/-! PROOFS. What crosses pages: which write rows serve the owner alone, and what the record of one locality shows of a
transaction through the page of another (spec/60_exceptions.md R321, R322, spec/44_abort.md R234). -/

namespace Sys2Proof.Machine

/-! ## How a write row is served -/

/-- How the registers are written that serve the owner of the interface alone, or nobody (spec/60_exceptions.md R322). -/
inductive OwnerServe : (Locality → State → State) → Prop where
  | ignored : OwnerServe fun _ s => s
  | intEnable (n : Width) (lane : BitVec 2) (v : Word) :
      OwnerServe fun l => intEnableWrite l (laneWrite v n lane) (laneKeep n lane)
  | intStatus (wv : Word) : OwnerServe fun l => intStatusWrite l wv
  | sts (wv : Word) : OwnerServe fun l => stsWrite l wv
  | fifo (bytes : List Byte) : OwnerServe fun l => fifoWrite l bytes

/-- How a write row serves its page: ACCESS and INTERFACE_ID any locality, every other register the owner. -/
inductive WriteServe : Instr → BitVec 3 → (Locality → State → State) → Prop where
  | owner {i : Instr} {loc : BitVec 3} {serve : Locality → State → State} (h : OwnerServe serve) : WriteServe i loc serve
  | access (n : Width) (loc : BitVec 3) (lane : BitVec 2) (v : Word) :
      WriteServe (.wrAccess n loc lane v) loc fun l => accessWrite l (laneWrite v n lane)
  | interfaceId (n : Width) (loc : BitVec 3) (lane : BitVec 2) (v : Word) :
      WriteServe (.wrInterfaceId n loc lane v) loc fun _ => interfaceIdWrite (laneWrite v n lane)

/-- Every write row runs the write pipeline on its page with one of these. -/
theorem exec_write_serve {i : Instr} {loc : BitVec 3} (h : writeOf i = some loc) :
    ∃ serve, WriteServe i loc serve ∧ ∀ s, exec i s = .next (busWrite loc serve s) := by
  cases i <;> cases h
  case wrAccess n lane v => exact ⟨_, .access n loc lane v, fun _ => rfl⟩
  case wrInterfaceId n lane v => exact ⟨_, .interfaceId n loc lane v, fun _ => rfl⟩
  case wrIntEnable n lane v => exact ⟨_, .owner (.intEnable n lane v), fun _ => rfl⟩
  case wrIntStatus n lane v => exact ⟨_, .owner (.intStatus (laneWrite v n lane)), fun _ => rfl⟩
  case wrSts n lane v => exact ⟨_, .owner (.sts (laneWrite v n lane)), fun _ => rfl⟩
  case wrDataFifo n lane v => exact ⟨_, .owner (.fifo (fifoBytes n lane v)), fun _ => rfl⟩
  case wrDataXfifo n dword lane v => exact ⟨_, .owner (.fifo (fifoBytes n lane v)), fun _ => rfl⟩
  all_goals exact ⟨_, .owner .ignored, fun _ => rfl⟩

/-! ## Writes of a locality that is not active -/

theorem stsWrite_of_not_owner {l : Locality} {s : State} (h : s.activeLocty ≠ some l) (wv : Word) :
    stsWrite l wv s = s := if_neg h

theorem OwnerServe.of_not_owner {serve : Locality → State → State} (h : OwnerServe serve) {l : Locality} {s : State}
    (hother : s.activeLocty ≠ some l) : serve l s = s := by
  cases h with
  | ignored => rfl
  | intEnable n lane v => exact intEnableWrite_of_not_owner hother _ _
  | intStatus wv => exact intStatusWrite_of_not_owner hother wv
  | sts wv => exact stsWrite_of_not_owner hother wv
  | fifo bytes => exact fifoWrite_ignored (.inl hother) bytes

/-- Settles O44: a row other than the two excluded ones serves the owner alone. -/
theorem nonActiveWritesAreIgnored : Obligations.NonActiveWritesAreIgnored := by
  unfold Obligations.NonActiveWritesAreIgnored
  intro i l s hi hother haccess hinterface
  obtain ⟨serve, hserve, hexec⟩ := exec_write_serve hi
  rw [hexec]
  cases hserve with
  | owner h => rw [busWrite_pageOf, h.of_not_owner hother, ite_self, State.quiet]
  | access n loc lane v => exact absurd rfl (haccess n lane v)
  | interfaceId n loc lane v => exact absurd rfl (hinterface n lane v)

/-! ## The records beside that of the page -/

/-- The records of the localities other than l are the same in both states. -/
def OthersKept (l : Locality) (s t : State) : Prop := ∀ k, k ≠ l → t.bank k = s.bank k

theorem OthersKept.refl (l : Locality) (s : State) : OthersKept l s s := fun _ _ => rfl

section Operations
variable {l : Locality} {s t : State}

/-- An operation on the record of l alone. -/
theorem OthersKept.record {u : State} (h : OthersKept l s t) (hu : RecordOnly l t u) : OthersKept l s u :=
  fun k hk => (hu.others k hk).trans (h k hk)

theorem OthersKept.raiseIrq (h : OthersKept l s t) (m : Word) : OthersKept l s (raiseIrq (some l) m t) :=
  h.record (recordOnly_raiseIrq l m t)

theorem OthersKept.stsSet (h : OthersKept l s t) (f : Word) : OthersKept l s (stsSet l f t) :=
  h.record (recordOnly_setBank l t _)

theorem OthersKept.setLocState (h : OthersKept l s t) (x : LocState) : OthersKept l s (t.setLocState l x) :=
  h.record (recordOnly_setBank l t _)

theorem OthersKept.setStsStore (h : OthersKept l s t) (x : Word) : OthersKept l s (t.setStsStore l x) :=
  h.record (recordOnly_setBank l t _)

theorem OthersKept.readied (h : OthersKept l s t) : OthersKept l s (t.readied l) :=
  (h.setStsStore _).setLocState .ready

/-- A hand-over to the owner itself writes no record but the owner's. -/
theorem OthersKept.newActiveLocality (h : OthersKept l s t) (howner : t.activeLocty = some l) :
    OthersKept l s (newActiveLocality (some l) t) := by
  have hdrop : dropOldOwner (some l) t = t := by
    rw [dropOldOwner, howner]
    exact if_neg (not_not.2 rfl)
  rw [newActiveLocality_same howner, hdrop]
  exact fun k hk => ((recordOnly_setBank l _ _).others k hk).trans (h k hk)

/-- A self-abort, at once or left pending, writes no record but its locality's (spec/44_abort.md R230, R231, R234). -/
theorem othersKept_prepAbort_self (howner : s.activeLocty = some l) : OthersKept l s (prepAbort (some l) l s) := by
  cases hexec : s.anyExecution with
  | true =>
    rw [prepAbort_deferred hexec]
    exact OthersKept.refl l s
  | false =>
    have hsettled : OthersKept l s s.settled := OthersKept.refl l s
    have habort : OthersKept l s (selfAbort l s.settled) := ((hsettled.setLocState .ready).stsSet _).raiseIrq _
    rw [prepAbort_now hexec, abort_eq rfl, if_pos rfl]
    exact habort.newActiveLocality (by simpa using howner)

theorem othersKept_commandReady (howner : s.activeLocty = some l) : OthersKept l s (commandReady l s) := by
  cases hstate : (s.bank l).state with
  | idle =>
    rw [commandReady_of_idle hstate]
    exact (OthersKept.refl l s).readied.raiseIrq _
  | ready =>
    rw [commandReady_of_ready hstate]
    exact OthersKept.refl l s
  | reception =>
    rw [commandReady_of_command (.inl hstate)]
    exact othersKept_prepAbort_self howner
  | execution =>
    rw [commandReady_of_command (.inr hstate)]
    exact othersKept_prepAbort_self howner
  | completion =>
    rw [commandReady_of_completion hstate]
    by_cases hset : (s.bank l).sts &&& 0x40#32 = 0#32
    · rw [readyFromCompletion_of_clear hset]
      have hready : OthersKept l s { s.readied l with rwOffset := 0#16 } := (OthersKept.refl l s).readied
      exact hready.raiseIrq _
    · rw [readyFromCompletion_of_set hset]
      exact ((OthersKept.refl l s).setStsStore _).setLocState .ready

theorem othersKept_tpmGo (l : Locality) (s : State) : OthersKept l s (tpmGo l s) := by
  have hsubmitted : OthersKept l s (submit l s) := by
    rw [submit_eq]
    exact OthersKept.refl l s
  unfold tpmGo
  split
  · exact hsubmitted.setLocState .execution
  · exact OthersKept.refl l s

theorem othersKept_responseRetry (l : Locality) (s : State) : OthersKept l s (responseRetry l s) := by
  unfold responseRetry
  split
  · exact OthersKept.stsSet (OthersKept.refl l s) _
  · exact OthersKept.refl l s

theorem stsExtraActions_bank_eq (l : Locality) (wv : Word) (s : State) (k : Locality) :
    (stsExtraActions l wv s).bank k = s.bank k :=
  Bank.ext_fields (by simp) (by simp) (by simp) (by simp) (by simp) (by simp)

/-- The owner's action after the extra actions; another locality's write does nothing. -/
theorem othersKept_stsWrite (l : Locality) (wv : Word) (s : State) : OthersKept l s (stsWrite l wv s) := by
  by_cases howner : s.activeLocty = some l
  · have hextra : OthersKept l s (stsExtraActions l wv s) := fun k _ => stsExtraActions_bank_eq l wv s k
    have hthen {u : State} (h : OthersKept l (stsExtraActions l wv s) u) : OthersKept l s u :=
      fun k hk => (h k hk).trans (hextra k hk)
    refine stsWrite_cases l wv s (OthersKept.refl l s) hextra (hthen ?_) (hthen ?_) (hthen ?_)
    · exact othersKept_commandReady (by simpa using howner)
    · exact othersKept_tpmGo l _
    · exact othersKept_responseRetry l _
  · rw [stsWrite_of_not_owner howner]
    exact OthersKept.refl l s

theorem othersKept_intEnableWrite (l : Locality) (wv keep : Word) (s : State) :
    OthersKept l s (intEnableWrite l wv keep s) := by
  unfold intEnableWrite
  split
  · exact (recordOnly_setBank l s _).others
  · exact OthersKept.refl l s

theorem othersKept_intStatusWrite (l : Locality) (wv : Word) (s : State) : OthersKept l s (intStatusWrite l wv s) := by
  unfold intStatusWrite
  split
  · rw [ackIrq_eq]
    exact (recordOnly_setBank l s _).others
  · exact OthersKept.refl l s

theorem othersKept_fifoWrite (l : Locality) (bytes : List Byte) (s : State) :
    OthersKept l s (fifoWrite l bytes s) := by
  obtain ⟨_, -, -, hrecord⟩ := fifoWrite_storesSome l bytes s
  exact hrecord.others

end Operations

theorem OwnerServe.othersKept {serve : Locality → State → State} (h : OwnerServe serve) (l : Locality) (s : State) :
    OthersKept l s (serve l s) := by
  cases h with
  | ignored => exact OthersKept.refl l s
  | intEnable n lane v => exact othersKept_intEnableWrite l _ _ s
  | intStatus wv => exact othersKept_intStatusWrite l wv s
  | sts wv => exact othersKept_stsWrite l wv s
  | fifo bytes => exact othersKept_fifoWrite l bytes s

/-! ## What a locality sees of a transaction through another page -/

/-- What a transaction through one page may leave in the record of another locality: LOCALITY_CHANGED, INT_SEL_LOCK and
the ACCESS bookkeeping, which is not constrained here (spec/60_exceptions.md R321, R322). -/
structure Bank.CrossPage (b b' : Bank) : Prop where
  state : b'.state = b.state
  sts : b'.sts = b.sts
  inte : b'.inte = b.inte
  ints : b'.ints = b.ints ∨ b'.ints = b.ints ||| 0x00000004#32
  ifaceId : b'.ifaceId = b.ifaceId ∨ b'.ifaceId = b.ifaceId ||| 0x00080000#32

theorem Bank.CrossPage.of_eq {b b' : Bank} (h : b' = b) : b.CrossPage b' := by
  subst h
  exact ⟨rfl, rfl, rfl, .inl rfl, .inl rfl⟩

/-- INT_SEL_LOCK is common to all localities (spec/46_id_regs.md R275). -/
theorem interfaceIdWrite_crossPage (wv : Word) (s : State) (k : Locality) :
    (s.bank k).CrossPage ((interfaceIdWrite wv s).bank k) := by
  refine ⟨by simp, by simp, by simp, by simp, ?_⟩
  rw [interfaceIdWrite_ifaceId]
  split
  · exact .inr rfl
  · exact .inl rfl

/-- Only ACCESS and INTERFACE_ID reach beyond the page's own record; under the invariant an ACCESS write is no
self-abort (spec/44_abort.md R234). -/
theorem WriteServe.crossPage {i : Instr} {loc : BitVec 3} {serve : Locality → State → State}
    (h : WriteServe i loc serve) {s : State} (hinv : DeviceInv s) {l k : Locality} (hk : k ≠ l) :
    (s.bank k).CrossPage ((serve l s).bank k) := by
  cases h with
  | owner h => exact .of_eq (h.othersKept l s k hk)
  | access n loc lane v =>
    have hchanged := (accessWrite_outcome l (laneWrite v n lane) s).changedOnly hinv
    exact ⟨hchanged.state k, hchanged.sts k, by simp, hchanged.ints k, by simp⟩
  | interfaceId n loc lane v => exact interfaceIdWrite_crossPage _ s k

/-- A read moves no record but the reader's, and only a FIFO read moves that (spec/20_memory.md R76). -/
theorem ReadServe.othersKept_busRead {i : Instr} {n : Width} {serve : Locality → State → Word × State}
    (h : ReadServe i n serve) (l : Locality) (s : State) : OthersKept l s (busRead n (pageOf l) serve s) := by
  cases h with
  | fifo hi lane =>
    rw [busRead_fifo]
    exact (readMoves_portBytes l _ s).others
  | register hi lane value =>
    obtain ⟨r, c, hframe⟩ := busRead_frame (loc := pageOf l) (s := s)
      (serve := fun l s => (laneRead (value l s) n lane, s)) (fun _ _ => rfl) n
    rw [hframe]
    exact OthersKept.refl l s

/-- Settles O45: a write by how its row is served, a read by the records it leaves alone. -/
theorem pageKeepsOtherLocalities : Obligations.PageKeepsOtherLocalities := by
  unfold Obligations.PageKeepsOtherLocalities
  intro i l k s t hinv hi hk ht
  have hcross : (s.bank k).CrossPage (t.bank k) := by
    obtain hwrite | ⟨n, hread⟩ := hi
    · obtain ⟨serve, hserve, hexec⟩ := exec_write_serve hwrite
      rw [hexec, busWrite_pageOf] at ht
      obtain rfl := Host.Outcome.next.inj ht
      split
      · exact .of_eq rfl
      · exact hserve.crossPage hinv hk
    · obtain ⟨serve, hserve, hexec⟩ := exec_read hread
      rw [hexec] at ht
      obtain rfl := Host.Outcome.next.inj ht
      exact .of_eq (hserve.othersKept_busRead l s k hk)
  exact ⟨hcross.state, hcross.sts, hcross.inte, hcross.ints, hcross.ifaceId⟩

end Sys2Proof.Machine
end

section
/-! PROOFS. The reset event, said once, and the states at power-on, each of which is the result of a reset
(spec/70_reset_and_hazards.md R350 to R355). -/

namespace Sys2Proof.Machine

/-! ## The reset event -/

theorem exec_reset (ver : TpmVersion) (raw : Nat) (err est : Bool) (s : State) :
    exec (.reset ver raw err est) s = .next (resetDevice ver raw err est s).quiet := rfl

theorem resetDevice_bank (ver : TpmVersion) (raw : Nat) (err est : Bool) (s : State) (k : Locality) :
    (resetDevice ver raw err est s).bank k = Bank.reset ver := by
  simp [resetDevice]

/-- Settles O53: every record by `resetDevice_bank`, what stays by `resetDevice_keeps`; the rest are the values the event
assigns. -/
theorem resetSetsEveryRegister : Obligations.ResetSetsEveryRegister := by
  unfold Obligations.ResetSetsEveryRegister
  intro ver raw err est s
  obtain ⟨hbuffer, hcmd, hbeIn, hcancels, hparams, hfaults, -, hinputs, hfree⟩ := resetDevice_keeps ver raw err est s
  refine ⟨_, exec_reset ver raw err est s, fun k => ?bank, rfl, rfl, rfl, rfl, rfl, rfl, rfl, rfl, rfl,
    fun hlow => ?deasserted, fun hkept => ?unchanged, hbuffer, hcmd, hbeIn, hcancels, hfaults, hparams, hinputs, hfree⟩
  case bank =>
    rw [State.bank_quiet, resetDevice_bank]
    cases ver <;> rfl
  case deasserted => simp [resetDevice, hlow, irqLineAfterReset]
  case unchanged => simp [resetDevice, hkept, irqLineAfterReset]

/-! ## Power-on -/

/-- A line that is low stays low, whatever IRQ_LINE_AT_RESET says. -/
theorem irqLineAfterReset_low (atReset : IrqLineAtReset) : irqLineAfterReset atReset false = false := by
  cases atReset <;> rfl

/-- A reset of a power-on state answers the power-on state with the new answers of the backend
(spec/70_reset_and_hazards.md R355). -/
theorem resetDevice_powerOn (p : PowerOn) (ver : TpmVersion) (raw : Nat) (err est : Bool) :
    resetDevice ver raw err est (State.powerOn p) =
      State.powerOn { p with ver := ver, raw := raw, err := err, est := est } := by
  simp [resetDevice, State.powerOn, irqLineAfterReset_low]

/-- Settles O54: the reset's answers are the ones the power-on state was built from. -/
theorem powerOnIsAResetState : Obligations.PowerOnIsAResetState := by
  unfold Obligations.PowerOnIsAResetState
  intro p
  refine ⟨?_, rfl, rfl, rfl, rfl⟩
  rw [exec_reset, resetDevice_powerOn]
  rfl

/-! ## The invariants at power-on -/

theorem deviceInv_reset : DeviceInv State.reset := by constructor <;> decide

/-- A power-on state is a reset, with its own answers, of the common start state with its BUFFER_INIT and configuration. -/
theorem powerOn_eq_resetDevice (p : PowerOn) :
    State.powerOn p =
      resetDevice p.ver p.raw p.err p.est { State.reset with buffer := p.bufferInit, params := p.params } :=
  (resetDevice_powerOn { p with ver := .v2_0, raw := 4096, err := false, est := false } p.ver p.raw p.err p.est).symm

theorem deviceInv_powerOn {p : PowerOn} (hbuffer : Memory.wf p.bufferInit = true) (hraw : 1 ≤ p.raw) :
    DeviceInv (State.powerOn p) := by
  have hstart : DeviceInv { State.reset with buffer := p.bufferInit, params := p.params } :=
    { deviceInv_reset with buffer_wf := hbuffer }
  rw [powerOn_eq_resetDevice]
  exact hstart.resetDevice p.ver hraw p.err p.est

theorem backendInv_powerOn (p : PowerOn) : BackendInv (State.powerOn p) := by
  rw [powerOn_eq_resetDevice]
  exact backendInv_resetDevice ..

/-- Settles O56: a power-on state is what a reset leaves, and a reset establishes both invariants. -/
theorem powerOnHasTheInvariants : Obligations.PowerOnHasTheInvariants := by
  unfold Obligations.PowerOnHasTheInvariants
  exact ⟨fun _ => deviceInv_powerOn, backendInv_powerOn, deviceInv_reset, backendInv_powerOn _⟩

end Sys2Proof.Machine
end
